-- ==== Sys2Proof/Word.lean ====
section
/-! DEFINITION. The bit-vector types of the block: a line byte, a 16-bit payload field, a 32-bit host register and
a timestamp of TS_W = 64 bits (20_memory.md R45, 00_scope.md R5 and R6). -/

namespace Sys2Proof

/-- One byte of the line (R45: "the line delivers 8 bits at a time"). -/
abbrev Byte := BitVec 8

/-- A 16-bit payload field, or the CRC (R45). -/
abbrev Half := BitVec 16

/-- A host register (R45: "host registers are 32 bits"). -/
abbrev Word := BitVec 32

/-- A timestamp, the value of `TIME` at an event: TS_W = 64 bits (R5, R6). -/
abbrev Stamp := BitVec 64

end Sys2Proof
end

