-- ==== Sys2Proof/Machine/Constants.lean ====
section
/-! DEFINITION. The constants the document fixes (00_scope.md R4) and the numbers the block's exact comparisons use in
place of the document's real-number formulas (R7). -/

namespace Sys2Proof.Machine

/-- BITS_PER_CHAR: bit-times counted per byte, whatever the line's real format (R4, R81). -/
def bitsPerChar : Nat := 11

/-- GAP_FRAME = 3.5 character times, in half characters (R4). -/
def frameGapHalfChars : Nat := 7

/-- GAP_DISCARD_LO = 1.5 character times, in half characters (R4). -/
def discardGapHalfChars : Nat := 3

/-- MIN_FRAME: "address + function + 2-byte CRC" (R4). -/
def minFrame : Nat := 4

/-- CRC_INIT (R4). -/
def crcInit : Half := 0xFFFF#16

/-- CRC_POLY, XORed after a right shift whose shifted-out bit was 1 (R4). -/
def crcPoly : Half := 0xA001#16

/-- EXC_MASK: "function's MSB set" marks an exception frame (R4). -/
def excMask : Byte := 0x80#8

/-- BASE_MASK: `baseFunction = function & 0x7F` (R4). -/
def baseMask : Byte := 0x7F#8

/-- ACCEPT_RATIO 0.80 = 4/5: the denominator (R4). -/
def acceptDen : Nat := 5

/-- ACCEPT_RATIO 0.80 = 4/5: the numerator (R4). -/
def acceptNum : Nat := 4

end Sys2Proof.Machine
end

