-- ==== Sys2Proof/Config.lean ====
section
/-! DEFINITION. What one instance of the block fixes: the open parameters of 00_scope.md R5 that 10_state.md R10
calls "not state, but parameters of the step relation", the LinkConfig they are made of, and the free values of the
model (constants with no body, so that nothing can be proved of them). -/

namespace Sys2Proof

/-- Data bits of a LinkConfig: 7 or 8 (R4 SCAN_DATABITS, R201). -/
inductive DataBits where
  | seven
  | eight
  deriving DecidableEq, Repr

/-- Parity of a LinkConfig (R4 SCAN_PARITY, R201). -/
inductive Parity where
  | none
  | even
  | odd
  deriving DecidableEq, Repr

/-- Stop bits of a LinkConfig: 1 or 2 (R4 SCAN_STOPBITS, R201). -/
inductive StopBits where
  | one
  | two
  deriving DecidableEq, Repr

/-- "LinkConfig: baud rate, data bits, parity, stop bits" (R17, 00_scope.md glossary). The baud rate has the 32 bits
of `BAUD` and `ACT_BAUD` (DESIGN CHOICE for the members of SCAN_CANDS: assumption 5). -/
structure LinkConfig where
  baud     : Word
  dataBits : DataBits
  parity   : Parity
  stopBits : StopBits
  deriving DecidableEq, Repr

/-- The parameters the document leaves open (R5). `none` is "unbounded", which R5 allows for
BUF_CAP and CFQ_DEPTH only. -/
structure Config where
  /-- TICK_HZ: ticks of `TIME` per second (D1). -/
  tickHz : Nat
  /-- BUF_CAP: capacity of the frame buffer in bytes (D15). -/
  bufCap : Option Nat
  /-- CFQ_DEPTH: capacity of the candidate-frame queue (D13). -/
  cfqDepth : Option Nat
  /-- DFQ_DEPTH: capacity of the decoded-frame queue, a number of 1 or more (D14, R20). -/
  dfqDepth : Nat
  /-- SCAN_BAUDS: the "standard Modbus baud rates" (D19). -/
  scanBauds : List Word
  /-- SCAN_CANDS: the candidates in the order the scanner tries them (D19). -/
  scanCands : List LinkConfig
  deriving DecidableEq, Repr

/-- SCAN_BAUDS × {7, 8} × {none, even, odd} × {1, 2}, the set that SCAN_CANDS must equal (R5, R161). -/
def Config.product (bauds : List Word) : List LinkConfig :=
  bauds.flatMap fun b =>
    [DataBits.seven, DataBits.eight].flatMap fun d =>
      [Parity.none, Parity.even, Parity.odd].flatMap fun p =>
        [StopBits.one, StopBits.two].map fun t => ⟨b, d, p, t⟩

/-- BUF_CAP of an instance with a host register interface, which every instance of this model has: at least 4 (R90)
and at most 65539, so that both fields of `REC_LEN` fit (R76). An unbounded buffer is no such instance. -/
def Config.bufCapFits : Option Nat → Bool
  | .none => false
  | .some n => decide (4 ≤ n) && decide (n ≤ 65539)

/-- The ranges R5 and the rules it names give the parameters: TICK_HZ positive (its reset value 2 × TICK_HZ of
`SCAN_WINDOW` fits the 32-bit register, assumption 6), BUF_CAP from 4 to 65539 (R90, R76), DFQ_DEPTH ≥ 1
(R20), the candidates without repetition, of positive baud rate, and as a set equal to the product (R161). No meaning
depends on it: the rules are followed for every Config. -/
def Config.wf (c : Config) : Bool :=
  decide (0 < c.tickHz) && decide (2 * c.tickHz < 2 ^ 32)
  && Config.bufCapFits c.bufCap
  && decide (1 ≤ c.dfqDepth)
  && (c.scanBauds.all fun b => decide (b ≠ 0))
  && decide c.scanCands.Nodup
  && (c.scanCands.all fun k => decide (k ∈ Config.product c.scanBauds))
  && ((Config.product c.scanBauds).all fun k => decide (k ∈ c.scanCands))

/-- The instance `State.reset` describes (assumption 3): TICK_HZ = 1 000 000 as in the spec's examples, the largest
BUF_CAP that R76 admits, CFQ unbounded by its default (R5), a DFQ_DEPTH of 1024 [DESIGN CHOICE], and the customary baud
rates of 93_implementation_defined.md G3 [PRESUMED: general knowledge, not in the source] in the order of the product.
Claims are stated for every Config. -/
def Config.sample : Config where
  tickHz := 1000000
  bufCap := .some 65539
  cfqDepth := .none
  dfqDepth := 1024
  scanBauds := [1200, 2400, 4800, 9600, 19200, 38400, 57600, 115200]
  scanCands := Config.product [1200, 2400, 4800, 9600, 19200, 38400, 57600, 115200]

/-- FREE VALUE: what a 32-bit counter register shows for a natural number that does not fit it. `CAND_IDX`,
`SCAN_TOTAL` and `SCAN_VALID` have 32 bits and "the model treats them as natural numbers" (R24), so the value read at
2^32 and above is not stated (assumption 8). The first argument is the register's offset. -/
opaque Config.wideCounter : Nat → Nat → BitVec 32

/-- FREE VALUE: what a 16-bit field of `REC_LEN` shows for a number above 65535. No run of an instance with a host
register interface shows it, its BUF_CAP being at most 65539 (R76, `Config.bufCapFits`); it stands for the other
instances (assumption 8). -/
opaque Config.wideLength : Nat → BitVec 16

end Sys2Proof
end

