-- ==== Sys2Proof/Syntax.lean ====
section
/-! DEFINITION. The operations of the block, one constructor per row of spec/opcode_table.json, with what the rows'
operands are made of: host registers (20_memory.md R46), frames as the decode stage takes them from CFQ (30_encoding.md
R61, R69), the events at the block's ports (R67), and the actions it emits toward the byte source (R201 to R204). -/

namespace Sys2Proof

/-- The host registers of R46, in the order of their offsets 0x00 to 0x68. -/
inductive Reg where
  | cmd | status | flags | baud | linecfg | opts | graceTicks | scanWindow
  | actBaud | actLinecfg | actOpts | actGraceTicks | actWindow
  | candIdx | scanTotal | scanValid | foundBaud | foundLinecfg
  | reserved48 | reserved4C
  | recHdr | recF0 | recF1 | recLen | recTsLo | recTsHi | recData
  deriving DecidableEq, Repr

/-- A CandidateFrame as it waits in CFQ: the triple of R19 (`bytes` of length ≥ 4 in every reachable state). -/
structure CandidateFrame where
  bytes   : List Byte
  ts      : Stamp
  inGrace : Bool
  deriving DecidableEq, Repr

/-- What every frame opcode carries besides its function byte and payload: the tags CFQ keeps with the frame (R19),
the address byte and the two CRC bytes in wire order (R61). -/
structure FrameHead where
  ts      : Stamp
  inGrace : Bool
  address : Byte
  crcLo   : Byte
  crcHi   : Byte
  deriving DecidableEq, Repr

/-- The control actions toward the byte source, the block's only outputs there (R9, R201 to R204). -/
inductive SrcAction where
  | configure (link : LinkConfig)
  | openSource
  | closeSource
  | discard
  deriving DecidableEq, Repr

/-- What arrives at the block, in the order of the trace (R67, R79): line events, the passing of time, host accesses
of the register space (their offset and access width, in bits, as the host drives them), the moment at which the decode
stage performs one `DECODE_STEP` (`DEC` of R79), and the hardware reset input (R250), which is no row of the table. -/
inductive Input where
  | rx        (t : Stamp) (b : Byte)
  | ended     (t : Stamp)
  | tick      (t : Stamp)
  | write     (t : Stamp) (offset bits : Nat) (v : Word)
  | read      (t : Stamp) (offset bits : Nat)
  | dec
  | hardReset
  deriving DecidableEq, Repr

/-- An operation in the form the spec's formats give it (R60): an event or access at a port (EV, REG), a frame of the
line as the decode stage reads it (F-RTU), an output action. -/
inductive Code where
  | input  (x : Input)
  | frame  (cf : CandidateFrame)
  | action (a : SrcAction)
  deriving DecidableEq, Repr

/-- The operations, one constructor per row of spec/opcode_table.json. In the frame opcodes `p` is the payload; in
`exc` and `other` `base` is bits 6:0 of the function byte. Every event carries its timestamp `t`, the value of `TIME`
at the moment it enters the block (R6). -/
inductive Instr where
  -- read family, R114 to R118
  | rd01Rsp (h : FrameHead) (p : List Byte)
  | rd01Req (h : FrameHead) (p : List Byte)
  | rd02Rsp (h : FrameHead) (p : List Byte)
  | rd02Req (h : FrameHead) (p : List Byte)
  | rd03Rsp (h : FrameHead) (p : List Byte)
  | rd03Req (h : FrameHead) (p : List Byte)
  | rd04Rsp (h : FrameHead) (p : List Byte)
  | rd04Req (h : FrameHead) (p : List Byte)
  -- write-single family, R119 and R120
  | ws05 (h : FrameHead) (p : List Byte)
  | ws06 (h : FrameHead) (p : List Byte)
  -- write-multiple family, R121 and R122
  | wm0fRsp (h : FrameHead) (p : List Byte)
  | wm0fReq (h : FrameHead) (p : List Byte)
  | wm0fUnk (h : FrameHead) (p : List Byte)
  | wm10Rsp (h : FrameHead) (p : List Byte)
  | wm10Req (h : FrameHead) (p : List Byte)
  | wm10Unk (h : FrameHead) (p : List Byte)
  -- exception frames, R123, and every other function code, R124
  | exc   (h : FrameHead) (base : BitVec 7) (p : List Byte)
  | other (h : FrameHead) (base : BitVec 7) (p : List Byte)
  -- host commands: values written to `CMD`, R72
  | openCmd    (t : Stamp)
  | closeCmd   (t : Stamp)
  | scanStart  (t : Stamp)
  | scanCancel (t : Stamp)
  | recPop     (t : Stamp)
  | softReset  (t : Stamp)
  | cmdIllegal (t : Stamp) (v : Word)
  -- line events, R67
  | rxbyte (t : Stamp) (b : Byte)
  | rxend  (t : Stamp)
  | tick   (t : Stamp)
  -- the decode stage, R189
  | decodeStep
  -- other register accesses, R208 and R209
  | wr (t : Stamp) (r : Reg) (v : Word)
  | rd (t : Stamp) (r : Reg)
  -- output actions, R201 to R204
  | srcConfigure (link : LinkConfig)
  | srcOpen
  | srcClose
  | srcDiscard
  deriving DecidableEq, Repr

end Sys2Proof
end

