-- ==== Sys2Proof/Machine/Operands.lean ====
section
/-! DEFINITION. How operands are put together from frame bytes and register bits: byte-order helpers (00_scope.md
section 5, 20_memory.md R43), the frame layout (30_encoding.md R61 to R66), the layout of the LinkConfig and option
registers (R71), and the offsets of the host registers (20_memory.md R46). -/

namespace Sys2Proof.Machine

/-- `s[i]`, used only at indexes inside the sequence (00_scope.md section 5). -/
def byteAt (s : List Byte) (i : Nat) : Byte := s.getD i 0

/-- `hi × 256 + lo` of two bytes, the more significant first (R43 (1), R66). -/
def joinBytes (hi lo : Byte) : Half := hi ++ lo

/-- `opt8(s, i) = s[i] if i < len(s) else NA`. -/
def opt8 (s : List Byte) (i : Nat) : Option Byte := s[i]?

/-- `opt16(s, i) = be16(s, i) if i + 1 < len(s) else NA`, big-endian (R43 (1)). -/
def opt16 (s : List Byte) (i : Nat) : Option Half :=
  match s[i]?, s[i + 1]? with
  | some hi, some lo => some (joinBytes hi lo)
  | _, _ => none

/-- `zext_16(v)` of a byte: a read response's `count` (R66). -/
def zext16 (b : Byte) : Half := b.setWidth 16

/-- A Bool as a 32-bit register bit. -/
def bit (b : Bool) : Word := if b then 1 else 0

/-- `exception`, bit 7 of the function byte (R66). -/
def isException (function : Byte) : Bool := function &&& excMask != 0

/-- `baseFunction = function & 0x7F`, a 7-bit value (R66). -/
def baseFunction (function : Byte) : BitVec 7 := (function &&& baseMask).setWidth 7

/-- The function byte with bit 7 set and `base` below it (R70, priority 1). -/
def exceptionByte (base : BitVec 7) : Byte := 1#1 ++ base

/-- The function byte with bit 7 clear and `base` below it. -/
def plainByte (base : BitVec 7) : Byte := 0#1 ++ base

/-- The function codes with a layout of their own (R70, priorities 2 to 4). -/
def namedFunctions : List Nat := [1, 2, 3, 4, 5, 6, 15, 16]

/-- The read family's response test `L ≥ 1 ∧ L = 1 + p[0]`, on natural numbers (R62, R114). -/
def isReadResponse (p : List Byte) : Bool :=
  decide (1 ≤ p.length) && decide (p.length = 1 + (byteAt p 0).toNat)

/-- The fields of a frame on the line, F-RTU (R61). -/
structure RtuFrame where
  address  : Byte
  function : Byte
  payload  : List Byte
  crcLo    : Byte
  crcHi    : Byte
  deriving DecidableEq, Repr

/-- The bytes of a frame in arrival order: `[address:1][function:1][payload:N][CRC:2, low byte first]` (R61). -/
def RtuFrame.bytes (f : RtuFrame) : List Byte :=
  [f.address, f.function] ++ f.payload ++ [f.crcLo, f.crcHi]

/-- A sequence of n ≥ 4 bytes read as a frame: address `f[0]`, function `f[1]`, payload `f[2 .. n−3]`, trailer
`f[n−2]`, `f[n−1]` (R61, R66). A shorter one is no frame (R110). -/
def RtuFrame.parse (f : List Byte) : Option RtuFrame :=
  if f.length < minFrame then none
  else some
    { address  := byteAt f 0
      function := byteAt f 1
      payload  := (f.drop 2).take (f.length - 4)
      crcLo    := byteAt f (f.length - 2)
      crcHi    := byteAt f (f.length - 1) }

/-! The LinkConfig layout: bit 0 `DATABITS`, bits 2:1 `PARITY`, bit 3 `STOPBITS`, bits 31:4 read 0 (R71). -/

/-- `DATABITS`: 0 means 7 data bits, 1 means 8 (R17). -/
def linecfgDataBits (w : Word) : DataBits := if w.getLsbD 0 then .eight else .seven

/-- `PARITY`: 0 none, 1 even, 2 odd, 3 reserved (R17). -/
def linecfgParity (w : Word) : Option Parity :=
  match w.getLsbD 2, w.getLsbD 1 with
  | false, false => some .none
  | false, true => some .even
  | true, false => some .odd
  | true, true => none

/-- `STOPBITS`: 0 means 1 stop bit, 1 means 2 (R17). -/
def linecfgStopBits (w : Word) : StopBits := if w.getLsbD 3 then .two else .one

/-- The bits of `LINECFG` that are stored, the others read 0 (R71). -/
def linecfgMask : Word := 0xF#32

/-- The bits of `OPTS` that are stored: `DISCARD_EN` and `GRACE_EN` (R71). -/
def optsMask : Word := 0x3#32

/-- `OPTS.DISCARD_EN`, bit 0 (R71). -/
def optDiscard (w : Word) : Bool := w.getLsbD 0

/-- `OPTS.GRACE_EN`, bit 1 (R71). -/
def optGrace (w : Word) : Bool := w.getLsbD 1

/-- The LinkConfig that `BAUD` and `LINECFG` hold, none while `PARITY` is the reserved value 3 (R17, R205). -/
def linkOfRegisters (baud linecfg : Word) : Option LinkConfig :=
  (linecfgParity linecfg).map fun p => ⟨baud, linecfgDataBits linecfg, p, linecfgStopBits linecfg⟩

/-- The `LINECFG` word of a LinkConfig (R71), as `BeginCandidate` puts it into `ACT_LINECFG` (R164). -/
def linecfgOf (c : LinkConfig) : Word :=
  (match c.dataBits with | .seven => 0#32 | .eight => 1#32)
  ||| (match c.parity with | .none => 0#32 | .even => 2#32 | .odd => 4#32)
  ||| (match c.stopBits with | .one => 0#32 | .two => 8#32)

/-- The byte offset of a host register (R46). -/
def regOffset : Reg → Nat
  | .cmd => 0x00 | .status => 0x04 | .flags => 0x08 | .baud => 0x0C | .linecfg => 0x10
  | .opts => 0x14 | .graceTicks => 0x18 | .scanWindow => 0x1C | .actBaud => 0x20
  | .actLinecfg => 0x24 | .actOpts => 0x28 | .actGraceTicks => 0x2C | .actWindow => 0x30
  | .candIdx => 0x34 | .scanTotal => 0x38 | .scanValid => 0x3C | .foundBaud => 0x40
  | .foundLinecfg => 0x44 | .reserved48 => 0x48 | .reserved4C => 0x4C | .recHdr => 0x50
  | .recF0 => 0x54 | .recF1 => 0x58 | .recLen => 0x5C | .recTsLo => 0x60 | .recTsHi => 0x64
  | .recData => 0x68

/-- The host register at a byte offset: multiples of 4 from 0x00 to 0x68 (R46, R47). -/
def regAt : Nat → Option Reg
  | 0x00 => some .cmd | 0x04 => some .status | 0x08 => some .flags | 0x0C => some .baud
  | 0x10 => some .linecfg | 0x14 => some .opts | 0x18 => some .graceTicks | 0x1C => some .scanWindow
  | 0x20 => some .actBaud | 0x24 => some .actLinecfg | 0x28 => some .actOpts
  | 0x2C => some .actGraceTicks | 0x30 => some .actWindow | 0x34 => some .candIdx
  | 0x38 => some .scanTotal | 0x3C => some .scanValid | 0x40 => some .foundBaud
  | 0x44 => some .foundLinecfg | 0x48 => some .reserved48 | 0x4C => some .reserved4C
  | 0x50 => some .recHdr | 0x54 => some .recF0 | 0x58 => some .recF1 | 0x5C => some .recLen
  | 0x60 => some .recTsLo | 0x64 => some .recTsHi | 0x68 => some .recData
  | _ => none

end Sys2Proof.Machine
end

