-- ==== Sys2Proof/Machine/Crc.lean ====
section
/-! DEFINITION. The CRC validator, CRC-16/MODBUS (41_crc.md). The register `CRC` is the value these functions carry: it
"does not survive the operation", so it is "not architectural state between operations" (10_state.md R21). -/

namespace Sys2Proof.Machine

/-- One of the 8 steps of a byte: the low bit is tested before the logical shift (R101). -/
def crcShift (c : Half) : Half := if c.getLsbD 0 then (c >>> 1) ^^^ crcPoly else c >>> 1

/-- `k` such steps. -/
def crcShifts : Nat → Half → Half
  | 0, c => c
  | k + 1, c => crcShifts k (crcShift c)

/-- `CrcStep(c, b)`: the byte goes into bits 7:0, then 8 steps (R101). -/
def crcStep (c : Half) (b : Byte) : Half := crcShifts 8 (c ^^^ b.setWidth 16)

/-- `Crc16(m)`, in index order from `0xFFFF`, neither inverted nor swapped (R101). -/
def crc16 (m : List Byte) : Half := m.foldl crcStep crcInit

/-- The low byte of a CRC, sent first (R102). -/
def crcLowByte (c : Half) : Byte := c.setWidth 8

/-- The high byte of a CRC, sent second (R102). -/
def crcHighByte (c : Half) : Byte := (c >>> 8).setWidth 8

/-- The message followed by the CRC bytes a correct sender appends (R102). -/
def withCrc (m : List Byte) : List Byte := m ++ [crcLowByte (crc16 m), crcHighByte (crc16 m)]

/-- "`crcValid` = received bytes equal computed bytes", byte with byte, over address, function and payload (R103). -/
def frameCrcValid (f : RtuFrame) : Bool :=
  let c := crc16 ([f.address, f.function] ++ f.payload)
  (f.crcLo == crcLowByte c) && (f.crcHi == crcHighByte c)

/-- `CrcValid(f)` of a byte sequence of n ≥ 4 bytes (R103); a shorter one is no frame. -/
def crcValid (f : List Byte) : Bool :=
  match RtuFrame.parse f with
  | none => false
  | some r => frameCrcValid r

end Sys2Proof.Machine
end

