-- ==== Sys2Proof/WellFormed.lean ====
section
/-! DEFINITION. The checks the spec puts on an operation's operands: the form of a frame opcode (30_encoding.md R62,
R64, R70), the illegal `CMD` values (R72), `WR` to `CMD` (46_host_commands.md R208: it is the command row's), and the
positive baud rate of `SRC_CONFIGURE` (R201). -/

namespace Sys2Proof

/-- The `CMD` codes that are commands, 1 to 6 (R72). -/
def commandCodes : List Nat := [1, 2, 3, 4, 5, 6]

/-- The operands are ones the table's row admits. -/
def wellFormed : Instr → Bool
  | .rd01Rsp _ p | .rd02Rsp _ p | .rd03Rsp _ p | .rd04Rsp _ p => Machine.isReadResponse p
  | .rd01Req _ p | .rd02Req _ p | .rd03Req _ p | .rd04Req _ p => !Machine.isReadResponse p
  | .ws05 _ _ | .ws06 _ _ => true
  | .wm0fRsp _ p | .wm10Rsp _ p => decide (p.length = 4)
  | .wm0fReq _ p | .wm10Req _ p => decide (5 ≤ p.length)
  | .wm0fUnk _ p | .wm10Unk _ p => decide (p.length ≤ 3)
  | .exc _ _ _ => true
  | .other _ base _ => decide (base.toNat ∉ Machine.namedFunctions)
  | .openCmd _ | .closeCmd _ | .scanStart _ | .scanCancel _ | .recPop _ | .softReset _ => true
  | .cmdIllegal _ v => decide (v.toNat ∉ commandCodes)
  | .rxbyte _ _ | .rxend _ | .tick _ | .decodeStep => true
  | .wr _ r _ => decide (r ≠ .cmd)
  | .rd _ _ => true
  | .srcConfigure c => decide (c.baud ≠ 0)
  | .srcOpen | .srcClose | .srcDiscard => true

end Sys2Proof
end

