-- ==== Sys2Proof/Decode.lean ====
section
/-! DEFINITION. The decoder: from an event, access, frame or action in the spec's formats (30_encoding.md R60) to the
operation it is, or a rejection by name; and the encoder, from the same layouts. Frames are selected by the priorities
of R70, host writes to `CMD` by the codes of R72, registers by the offsets of 20_memory.md R46. -/

namespace Sys2Proof

/-- Why a code is no operation of the block. -/
inductive DecodeError where
  /-- A byte sequence of fewer than 4 bytes is no frame (R61, R110). -/
  | shortFrame (len : Nat)
  /-- A host access that is not 32 bits wide (R47). -/
  | accessWidth (bits : Nat)
  /-- A host access at an offset that is no multiple of 4 (R47). -/
  | misaligned (offset : Nat)
  /-- A host access at 0x6C or above (R47). -/
  | offsetBeyondMap (offset : Nat)
  /-- The reset input is no operation of the table: the step acts on it itself (R250). -/
  | resetInput
  /-- `SRC_CONFIGURE` takes a positive baud rate (R201). -/
  | configureWithoutBaud
  deriving DecidableEq, Repr

/-- The frame opcode of a frame, by the first matching line of R70; inside a family the form is selected by the
payload (R62, R64). -/
def frameInstr (h : FrameHead) (function : Byte) (p : List Byte) : Instr :=
  let base := Machine.baseFunction function
  if Machine.isException function then .exc h base p
  else match function.toNat with
    | 0x01 => if Machine.isReadResponse p then .rd01Rsp h p else .rd01Req h p
    | 0x02 => if Machine.isReadResponse p then .rd02Rsp h p else .rd02Req h p
    | 0x03 => if Machine.isReadResponse p then .rd03Rsp h p else .rd03Req h p
    | 0x04 => if Machine.isReadResponse p then .rd04Rsp h p else .rd04Req h p
    | 0x05 => .ws05 h p
    | 0x06 => .ws06 h p
    | 0x0F => if p.length = 4 then .wm0fRsp h p else if 5 ≤ p.length then .wm0fReq h p else .wm0fUnk h p
    | 0x10 => if p.length = 4 then .wm10Rsp h p else if 5 ≤ p.length then .wm10Req h p else .wm10Unk h p
    | _ => .other h base p

/-- The frame opcode of a CandidateFrame; total on any bytes. -/
def decodeFrame (cf : CandidateFrame) : Except DecodeError Instr :=
  match Machine.RtuFrame.parse cf.bytes with
  | none => .error (.shortFrame cf.bytes.length)
  | some f => .ok (frameInstr ⟨cf.ts, cf.inGrace, f.address, f.crcLo, f.crcHi⟩ f.function f.payload)

/-- The host command of a value written to `CMD`, all 32 bits compared (R72). -/
def commandInstr (t : Stamp) (v : Word) : Instr :=
  match v.toNat with
  | 1 => .openCmd t
  | 2 => .closeCmd t
  | 3 => .scanStart t
  | 4 => .scanCancel t
  | 5 => .recPop t
  | 6 => .softReset t
  | _ => .cmdIllegal t v

/-- The register of a host access, which is "32 bits wide at an offset that is a multiple of 4" below 0x6C (R47). -/
def decodeAccess (offset bits : Nat) : Except DecodeError Reg :=
  if bits ≠ 32 then .error (.accessWidth bits)
  else if offset % 4 ≠ 0 then .error (.misaligned offset)
  else match Machine.regAt offset with
    | none => .error (.offsetBeyondMap offset)
    | some r => .ok r

/-- The operation of an event or access at a port (R67). -/
def decodeInput : Input → Except DecodeError Instr
  | .rx t b => .ok (.rxbyte t b)
  | .ended t => .ok (.rxend t)
  | .tick t => .ok (.tick t)
  | .write t offset bits v =>
    match decodeAccess offset bits with
    | .error e => .error e
    | .ok .cmd => .ok (commandInstr t v)
    | .ok r => .ok (.wr t r v)
  | .read t offset bits =>
    match decodeAccess offset bits with
    | .error e => .error e
    | .ok r => .ok (.rd t r)
  | .dec => .ok .decodeStep
  | .hardReset => .error .resetInput

/-- The operation of an output action (R201 to R204). -/
def decodeAction : SrcAction → Except DecodeError Instr
  | .configure c => if c.baud = 0 then .error .configureWithoutBaud else .ok (.srcConfigure c)
  | .openSource => .ok .srcOpen
  | .closeSource => .ok .srcClose
  | .discard => .ok .srcDiscard

/-- The decoder, total on every code. -/
def decode : Code → Except DecodeError Instr
  | .input x => decodeInput x
  | .frame cf => decodeFrame cf
  | .action a => decodeAction a

/-- The frame with this head, function byte and payload, as the line carries it (R61). -/
def encodeFrame (h : FrameHead) (function : Byte) (p : List Byte) : Code :=
  .frame ⟨Machine.RtuFrame.bytes ⟨h.address, function, p, h.crcLo, h.crcHi⟩, h.ts, h.inGrace⟩

/-- A 32-bit write of `v` to a host register (R46, R47). -/
def encodeWrite (t : Stamp) (r : Reg) (v : Word) : Code := .input (.write t (Machine.regOffset r) 32 v)

/-- The encoder: function bytes of R70, codes of R72, offsets of R46. -/
def encode : Instr → Code
  | .rd01Rsp h p | .rd01Req h p => encodeFrame h 0x01 p
  | .rd02Rsp h p | .rd02Req h p => encodeFrame h 0x02 p
  | .rd03Rsp h p | .rd03Req h p => encodeFrame h 0x03 p
  | .rd04Rsp h p | .rd04Req h p => encodeFrame h 0x04 p
  | .ws05 h p => encodeFrame h 0x05 p
  | .ws06 h p => encodeFrame h 0x06 p
  | .wm0fRsp h p | .wm0fReq h p | .wm0fUnk h p => encodeFrame h 0x0F p
  | .wm10Rsp h p | .wm10Req h p | .wm10Unk h p => encodeFrame h 0x10 p
  | .exc h base p => encodeFrame h (Machine.exceptionByte base) p
  | .other h base p => encodeFrame h (Machine.plainByte base) p
  | .openCmd t => encodeWrite t .cmd 1
  | .closeCmd t => encodeWrite t .cmd 2
  | .scanStart t => encodeWrite t .cmd 3
  | .scanCancel t => encodeWrite t .cmd 4
  | .recPop t => encodeWrite t .cmd 5
  | .softReset t => encodeWrite t .cmd 6
  | .cmdIllegal t v => encodeWrite t .cmd v
  | .rxbyte t b => .input (.rx t b)
  | .rxend t => .input (.ended t)
  | .tick t => .input (.tick t)
  | .decodeStep => .input .dec
  | .wr t r v => encodeWrite t r v
  | .rd t r => .input (.read t (Machine.regOffset r) 32)
  | .srcConfigure c => .action (.configure c)
  | .srcOpen => .action .openSource
  | .srcClose => .action .closeSource
  | .srcDiscard => .action .discard

/-- `n` bytes of a number, least significant first. -/
def lowBytes : Nat → Nat → List Byte
  | 0, _ => []
  | n + 1, w => BitVec.ofNat 8 w :: lowBytes n (w / 256)

/-- The code of an opcode-table word whose lowest bits are `w`. The table numbers a command row's 32 bits (the value
written to `CMD`) and a frame row's function byte; a frame row of more bytes goes on with the payload. What the table
gives no bits is 0: the address byte, the CRC bytes, and `t` stands where the events' timestamps stand (assumption 4). -/
def tableCode (t : Stamp) (nbits w : Nat) : Option Code :=
  if nbits = 32 then some (encodeWrite t .cmd (BitVec.ofNat 32 w))
  else if 8 ≤ nbits ∧ nbits % 8 = 0 then
    some (.frame ⟨0#8 :: (lowBytes (nbits / 8) w ++ [0#8, 0#8]), t, false⟩)
  else none

/-- The instruction the decoder reads from an opcode-table word. -/
def decodeTableWord (nbits w : Nat) : Option Instr :=
  match tableCode 0 nbits w with
  | none => none
  | some c =>
    match decode c with
    | .ok i => some i
    | .error _ => none

end Sys2Proof
end

