-- ==== Sys2Proof/Machine/State.lean ====
section
/-! DEFINITION. The state of the block as plain data (10_state.md), the reasons a step can stop, and the state after
reset (10_state.md R30). -/

namespace Sys2Proof.Machine

/-- No fault stops the block: "No error outcome ever stops the block" (60_exceptions.md R220), so the type has no
constructor. The error outcomes E_A to E_E and E_R are effects of the operations (`raise`, Machine/Ops.lean). -/
inductive Fault where
  deriving DecidableEq, Repr

/-- Why the model has no step (93_implementation_defined.md: the treatment `refuse`). All of them are safe: the spec
gives the block no step there, so nothing can be proved of one. -/
inductive Refusal where
  /-- Raised by `exec` for an instruction that has no meaning yet. Safe. -/
  | notModelled (mnemonic : String)
  /-- Raised by the step for an event whose timestamp is below `TIME`: "the model gives it no step" (R8). Safe. -/
  | clockRunsBack
  /-- Raised by the step when `TIME` would reach 2^64: "outside the model" (R6). Safe. -/
  | clockExhausted
  /-- Raised by the step for a host access that "the model refuses (no step)" (R47). Safe. -/
  | undefinedAccess (why : DecodeError)
  /-- Raised by `DECODE_STEP` while CFQ is empty: it is "enabled exactly when |CFQ| > 0" (R189). Safe. -/
  | decodeNotEnabled
  /-- Raised by an output action where the block does not emit it: SRC_CONFIGURE and SRC_OPEN while `LINE_OPEN` = 1,
  SRC_CLOSE and SRC_DISCARD while `LINE_OPEN` = 0 (R201 to R204). Safe. -/
  | actionNotEmitted (a : SrcAction)
  deriving DecidableEq, Repr

/-- `MODE` (R15). -/
inductive Mode where
  | idle
  | capture
  | scan
  deriving DecidableEq, Repr

/-- `SCAN_OUTCOME` (R24). -/
inductive ScanOutcome where
  | none
  | accepted
  | exhausted
  | cancelled
  deriving DecidableEq, Repr

/-- The class of a DecodedFrame (42_decoder.md R111). -/
inductive FrameClass where
  | request
  | response
  | deferred
  | unknown
  deriving DecidableEq, Repr

/-- The DecodedFrame, DF (30_encoding.md R68). `none` is NA, "not applicable". -/
structure DecodedFrame where
  ts           : Stamp
  address      : Byte
  function     : Byte
  baseFunction : BitVec 7
  exception    : Bool
  cls          : FrameClass
  payload      : List Byte
  crcLo        : Byte
  crcHi        : Byte
  crcValid     : Bool
  firstReg     : Option Half
  count        : Option Half
  bcf          : Option Byte
  errorCode    : Option Byte
  dataOff      : Nat
  deriving DecidableEq, Repr

/-- The state. Host registers are 32-bit words; `Bool` is a bit of 10_state.md that is read and written alone. -/
structure State where
  /-- The instance's parameters (00_scope.md R5); no operation writes them. -/
  cfg : Config
  /-- The model's own: what has not yet arrived at the block, first to arrive first (assumption 2). -/
  inputs : List Input
  /-- `TIME` (R6). -/
  time : Stamp
  /-- `BUF` (R11); `LEN` is its length. -/
  buf : List Byte
  /-- `T_PREV` (R12). -/
  tPrev : Stamp
  /-- `T_OPEN` (R13). -/
  tOpen : Stamp
  /-- `MODE` (R15). -/
  mode : Mode
  /-- `LINE_OPEN` (R16). -/
  lineOpen : Bool
  /-- `BAUD` (R17). -/
  baud : Word
  /-- `LINECFG` (R17, R71). -/
  linecfg : Word
  /-- `OPTS` (R17, R71). -/
  opts : Word
  /-- `GRACE_TICKS` (R17). -/
  graceTicks : Word
  /-- `SCAN_WINDOW` (R17). -/
  scanWindow : Word
  /-- `ACT_BAUD` (R18). -/
  actBaud : Word
  /-- `ACT_LINECFG` (R18). -/
  actLinecfg : Word
  /-- `ACT_DISCARD` (R18). -/
  actDiscard : Bool
  /-- `ACT_GRACE_EN` (R18). -/
  actGraceEn : Bool
  /-- `ACT_GRACE_TICKS` (R18). -/
  actGraceTicks : Word
  /-- `ACT_WINDOW` (R18). -/
  actWindow : Word
  /-- `CFQ`, head first (R19). -/
  cfq : List CandidateFrame
  /-- `DFQ`, head first (R20). -/
  dfq : List DecodedFrame
  /-- `FLAGS` (R23, layout R73). -/
  flags : Word
  /-- `CAND_IDX`, a natural number (R24). -/
  candIdx : Nat
  /-- `SCAN_TOTAL`, a natural number (R24). -/
  scanTotal : Nat
  /-- `SCAN_VALID`, a natural number (R24). -/
  scanValid : Nat
  /-- `CANCEL_REQ` (R24). -/
  cancelReq : Bool
  /-- `SCAN_OUTCOME` (R24). -/
  scanOutcome : ScanOutcome
  /-- `FOUND_BAUD` (R24). -/
  foundBaud : Word
  /-- `FOUND_LINECFG` (R24). -/
  foundLinecfg : Word
  /-- `REC_CUR` (R27). -/
  recCur : Nat
  /-- The model's own: every action emitted toward the byte source so far, oldest first (R9, assumption 2). -/
  actions : List SrcAction
  /-- The model's own: what the last `RD` returned to the host (R209, assumption 2). -/
  rdata : Word
  deriving DecidableEq, Repr

/-- Reset of an instance (R30): every state element at the value of the table. `TIME`, `T_PREV`, `T_OPEN` are
"unspecified" there and the three fields of the model's own are not state of the block: 0 and empty [DESIGN CHOICE:
assumption 1]. `SCAN_WINDOW` is 2 × TICK_HZ, `LINECFG` is 8 data bits, no parity, 1 stop bit. -/
def State.resetWith (cfg : Config) : State where
  cfg := cfg
  inputs := []
  time := 0
  buf := []
  tPrev := 0
  tOpen := 0
  mode := .idle
  lineOpen := false
  baud := 0
  linecfg := 1
  opts := 0
  graceTicks := 0
  scanWindow := BitVec.ofNat 32 (2 * cfg.tickHz)
  actBaud := 0
  actLinecfg := 0
  actDiscard := false
  actGraceEn := false
  actGraceTicks := 0
  actWindow := 0
  cfq := []
  dfq := []
  flags := 0
  candIdx := 0
  scanTotal := 0
  scanValid := 0
  cancelReq := false
  scanOutcome := .none
  foundBaud := 0
  foundLinecfg := 0
  recCur := 0
  actions := []
  rdata := 0

/-- The machine right after reset, for the instance `Config.sample`. -/
def State.reset : State := State.resetWith Config.sample

end Sys2Proof.Machine
end

