-- ==== Sys2Proof/Machine/Flags.lean ====
section
/-! DEFINITION. The sticky flags of the register `FLAGS` (10_state.md R23, layout 30_encoding.md R73). The per-frame
flags of R22 are fields of the DecodedFrame (Machine/Decoder.lean); there are no arithmetic condition codes. -/

namespace Sys2Proof.Machine

/-- The sticky flags (R23). -/
inductive Flag where
  | srcTerm
  | scanDone
  | short
  | dfqDrop
  | cfqDrop
  | bufOvf
  | cmdRefused
  deriving DecidableEq, Repr

/-- The bit of each flag in `FLAGS` (R73). -/
def flagMask : Flag → Word
  | .srcTerm => 0x01#32
  | .scanDone => 0x02#32
  | .short => 0x04#32
  | .dfqDrop => 0x08#32
  | .cfqDrop => 0x10#32
  | .bufOvf => 0x20#32
  | .cmdRefused => 0x40#32

/-- The bits of `FLAGS` that are stored; bits 31:7 read 0 (R73). -/
def flagsMask : Word := 0x7F#32

/-- `F <- 1`: the flag is sticky and stays 1 until the host clears it or reset (R23). -/
def setFlag (f : Flag) (s : State) : State := { s with flags := s.flags ||| flagMask f }

/-- Writing `FLAGS` with value `m`: `FLAGS <- FLAGS & ¬m` (R73, R208). -/
def clearFlags (m : Word) (s : State) : State := { s with flags := s.flags &&& ~~~m }

end Sys2Proof.Machine
end

