-- ==== Sys2Proof/Machine/Ops.lean ====
section
/-! DEFINITION. The shared operations: elapsed time, output actions, the error outcomes, the end of a scan, the
delivery of a Segment and the Reassembler (40_reassembler.md), reset (70_reset_and_hazards.md R250). The block has no
load or store and no general memory (20_memory.md R40): the frame buffer and the queues are what it stores. Within one
operation the pseudocode's lines take effect in order (assumption 7). -/

namespace Sys2Proof.Machine

/-- `t − u` on timestamps, a natural number; by the premise of monotonic time `u ≤ t` (R7, R8). -/
def elapsed (t u : Stamp) : Nat := t.toNat - u.toNat

/-- `emit A`: the action goes to the byte source (00_scope.md section 5). -/
def emit (a : SrcAction) (s : State) : State := { s with actions := s.actions ++ [a] }

/-- `emit SRC_OPEN; LINE_OPEN <- 1` (R202). -/
def openSource (s : State) : State := { emit .openSource s with lineOpen := true }

/-- `emit SRC_CLOSE; LINE_OPEN <- 0` (R203). -/
def closeSource (s : State) : State := { emit .closeSource s with lineOpen := false }

/-- `Finish(o)`: the outcome, `MODE <- IDLE`, `F_SCAN_DONE <- 1` (R174). -/
def finish (o : ScanOutcome) (s : State) : State :=
  setFlag .scanDone { s with scanOutcome := o, mode := .idle }

/-- The error outcomes of 60_exceptions.md R220. -/
inductive ErrorOutcome where
  /-- E_A, malformed frame (R221). -/
  | malformedFrame
  /-- E_B, CRC mismatch (R222). -/
  | crcMismatch
  /-- E_C, decode fault (R223). -/
  | decodeFault
  /-- E_D, byte-source fault in CAPTURE (R224). -/
  | sourceFault
  /-- E_E, scanner exhaustion (R225). -/
  | exhaustion
  /-- E_R, refused command (R226). -/
  | refusedCommand
  deriving DecidableEq, Repr

/-- `raise E`: what each outcome records. "No outcome saves state, changes a privilege level, masks anything, switches
a stack or fetches a vector" (R232) and there is nothing to return from (R233). E_B leaves no trace but `crcValid` = 0
in the DecodedFrame, E_C none at all. -/
def raise : ErrorOutcome → State → State
  | .malformedFrame, s => setFlag .short s
  | .crcMismatch, s => s
  | .decodeFault, s => s
  | .sourceFault, s => setFlag .srcTerm s
  | .exhaustion, s => finish .exhausted s
  | .refusedCommand, s => setFlag .cmdRefused s

/-- `refuse`: the operation changes nothing but `F_CMD_REFUSED` (R226). -/
def refuse (s : State) : State := raise .refusedCommand s

/-- A queue that may be unbounded holds as many entries as its capacity (R188). -/
def isFull (depth : Option Nat) (n : Nat) : Bool :=
  match depth with
  | none => false
  | some d => decide (n = d)

/-- A buffer of `n` bytes takes one more (R83: `len(BUF) < BUF_CAP`). -/
def hasRoom (cap : Option Nat) (n : Nat) : Bool :=
  match cap with
  | none => true
  | some c => decide (n < c)

/-- A gap of `g` ticks lasts `half` half character times or more: `2 × g × ACT_BAUD ≥ half × 11 × TICK_HZ` (R82). -/
def gapAtLeast (half g : Nat) (s : State) : Bool :=
  decide (half * bitsPerChar * s.cfg.tickHz ≤ 2 * g * s.actBaud.toNat)

/-- `IsFrameGap(g)` (R82). -/
def isFrameGap (g : Nat) (s : State) : Bool := gapAtLeast frameGapHalfChars g s

/-- `IsDiscardGap(g)`: lower end inclusive, upper end exclusive (R82). -/
def isDiscardGap (g : Nat) (s : State) : Bool := gapAtLeast discardGapHalfChars g s && !isFrameGap g s

/-- A Segment: what the Reassembler cuts (R69). -/
structure Segment where
  bytes : List Byte
  ts    : Stamp
  deriving DecidableEq, Repr

/-- `ScanCount(seg)` (R169). -/
def scanCount (seg : Segment) (s : State) : State :=
  { s with
    scanTotal := s.scanTotal + 1
    scanValid := if crcValid seg.bytes then s.scanValid + 1 else s.scanValid }

/-- The bit `inGrace` of a Segment: `(ACT_GRACE_EN = 1) ∧ (seg.ts − T_OPEN < ACT_GRACE_TICKS)` (R87). -/
def inGraceWindow (ts : Stamp) (s : State) : Bool :=
  s.actGraceEn && decide (elapsed ts s.tOpen < s.actGraceTicks.toNat)

/-- The push of a CandidateFrame, or its drop while CFQ is full (R87, R188). -/
def pushCandidate (cf : CandidateFrame) (s : State) : State :=
  if isFull s.cfg.cfqDepth s.cfq.length then setFlag .cfqDrop s
  else { s with cfq := s.cfq ++ [cf] }

/-- `Deliver(seg)`: length filter, then mode, then CFQ-full (R87, R86, R231 (2)). -/
def deliver (seg : Segment) (s : State) : State :=
  if seg.bytes.length < minFrame then raise .malformedFrame s
  else match s.mode with
    | .scan => scanCount seg s
    | _ => pushCandidate ⟨seg.bytes, seg.ts, inGraceWindow seg.ts s⟩ s

/-- The Segment that BUF holds; it ends at the last byte received (R84). -/
def currentSegment (s : State) : Segment := ⟨s.buf, s.tPrev⟩

/-- `seg := (BUF, T_PREV); BUF <- []; Deliver(seg)`. -/
def cutSegment (s : State) : State := deliver (currentSegment s) { s with buf := [] }

/-- `Flush()` (R88). -/
def flush (s : State) : State := if s.buf = [] then s else cutSegment s

/-- The boundary handling of an arriving byte: a frame gap cuts, else in discard mode a discard gap clears BUF
silently, else nothing; no test is made while `LEN = 0` (R83, R85, R94). -/
def boundary (t : Stamp) (s : State) : State :=
  if s.buf = [] then s
  else if isFrameGap (elapsed t s.tPrev) s then cutSegment s
  else if s.actDiscard && isDiscardGap (elapsed t s.tPrev) s then { s with buf := [] }
  else s

/-- The arriving byte is appended, or dropped with `F_BUF_OVF` while BUF is full (R83, R90). -/
def storeByte (b : Byte) (s : State) : State :=
  if hasRoom s.cfg.bufCap s.buf.length then { s with buf := s.buf ++ [b] } else setFlag .bufOvf s

/-- `Reassemble(t, b)` (R83). `T_PREV` is updated also when the byte is dropped (R90). -/
def reassemble (t : Stamp) (b : Byte) (s : State) : State :=
  { storeByte b (boundary t s) with tPrev := t }

/-- Hardware reset: every state element at its reset value, `TIME` not cleared, nothing emitted (R250, R252). What lies
outside the block, its inputs still to come and what it has output, stays. -/
def hardReset (s : State) : State :=
  { State.resetWith s.cfg with
    inputs := s.inputs, time := s.time, actions := s.actions, rdata := s.rdata }

end Sys2Proof.Machine
end

