-- ==== Sys2Proof/Machine/Decoder.lean ====
section
/-! DEFINITION. The Frame Decoder (42_decoder.md R110 to R130): the common part, one function per payload layout, the
dispatch `Decode`, and the decode stage's filter and push (45_pipeline.md R189 to R191). -/

namespace Sys2Proof.Machine

/-- `Header`, the common part for every function code (R112); the class is a placeholder that every layout sets. -/
def header (h : FrameHead) (function : Byte) (p : List Byte) : DecodedFrame where
  ts := h.ts
  address := h.address
  function := function
  baseFunction := baseFunction function
  exception := isException function
  cls := .unknown
  payload := p
  crcLo := h.crcLo
  crcHi := h.crcHi
  crcValid := frameCrcValid ⟨h.address, function, p, h.crcLo, h.crcHi⟩
  firstReg := none
  count := none
  bcf := none
  errorCode := none
  dataOff := 0

/-- The read family's response form (R114). -/
def readResponse (d : DecodedFrame) : DecodedFrame :=
  { d with cls := .response, count := (opt8 d.payload 0).map zext16, dataOff := 1 }

/-- The read family's request form (R114). -/
def readRequest (d : DecodedFrame) : DecodedFrame :=
  { d with
    cls := .request
    firstReg := opt16 d.payload 0
    count := opt16 d.payload 2
    dataOff := min 4 d.payload.length }

/-- `Read` (R114). -/
def readFrame (d : DecodedFrame) : DecodedFrame :=
  if isReadResponse d.payload then readResponse d else readRequest d

/-- `WriteSingle` (R119). -/
def writeSingle (d : DecodedFrame) : DecodedFrame :=
  { d with cls := .deferred, firstReg := opt16 d.payload 0, dataOff := min 2 d.payload.length }

/-- `WriteMulti` with `L = 4` (R121). -/
def writeMultiResponse (d : DecodedFrame) : DecodedFrame :=
  { d with
    cls := .response, firstReg := opt16 d.payload 0, count := opt16 d.payload 2, dataOff := 4 }

/-- `WriteMulti` with `L ≥ 5` (R121). -/
def writeMultiRequest (d : DecodedFrame) : DecodedFrame :=
  { d with
    cls := .request
    firstReg := opt16 d.payload 0
    count := opt16 d.payload 2
    bcf := opt8 d.payload 4
    dataOff := 5 }

/-- `WriteMulti` with `L ≤ 3` (R121). -/
def writeMultiUnknown (d : DecodedFrame) : DecodedFrame := { d with cls := .unknown, dataOff := 0 }

/-- `WriteMulti` (R121). -/
def writeMulti (d : DecodedFrame) : DecodedFrame :=
  if d.payload.length = 4 then writeMultiResponse d
  else if 5 ≤ d.payload.length then writeMultiRequest d
  else writeMultiUnknown d

/-- `Exc` (R123). -/
def exceptionFrame (d : DecodedFrame) : DecodedFrame :=
  { d with cls := .response, errorCode := opt8 d.payload 0, dataOff := min 1 d.payload.length }

/-- `Other` (R124). -/
def otherFrame (d : DecodedFrame) : DecodedFrame := { d with cls := .unknown, dataOff := 0 }

/-- `Decode`, the dispatch: the exception test first, then the family by `baseFunction` (R113). -/
def decodeRecord (h : FrameHead) (function : Byte) (p : List Byte) : DecodedFrame :=
  let d := header h function p
  if d.exception then exceptionFrame d
  else match d.baseFunction.toNat with
    | 1 | 2 | 3 | 4 => readFrame d
    | 5 | 6 => writeSingle d
    | 15 | 16 => writeMulti d
    | _ => otherFrame d

/-- `d.data = payload[dataOff ..]`, "the value/data payload slice" (R68). -/
def DecodedFrame.data (d : DecodedFrame) : List Byte := d.payload.drop d.dataOff

/-- What the decode stage does with a DecodedFrame: the grace filter, then DFQ-full, else the push (R189 to R191,
R231 (3)). -/
def decodeStage (inGrace : Bool) (d : DecodedFrame) (s : State) : State :=
  if inGrace && !d.crcValid then s
  else if s.dfq.length = s.cfg.dfqDepth then setFlag .dfqDrop s
  else { s with dfq := s.dfq ++ [d] }

/-- `DECODE_STEP` (R189): the head of CFQ is consumed whatever becomes of it. A head of fewer than 4 bytes, which no
run reaches (R86), is outcome E_C: consumed, no DecodedFrame, no other change (R110, R223). -/
def execDecodeStep (s : State) : Host.Outcome State Fault Refusal :=
  match s.cfq with
  | [] => .refused .decodeNotEnabled
  | cf :: rest =>
    match RtuFrame.parse cf.bytes with
    | none => .next (raise .decodeFault { s with cfq := rest })
    | some f =>
      .next (decodeStage cf.inGrace
        (decodeRecord ⟨cf.ts, cf.inGrace, f.address, f.crcLo, f.crcHi⟩ f.function f.payload)
        { s with cfq := rest })

end Sys2Proof.Machine
end

