-- ==== Sys2Proof/Machine/Frames.lean ====
section
/-! DEFINITION. The frame opcodes, one meaning per row of the table (42_decoder.md R115 to R124): the decode stage
processes the frame that is the opcode's operand, already taken from the head of CFQ. `DECODE_STEP` is the pop of that
head followed by the opcode it decodes to. -/

namespace Sys2Proof.Machine

/-- The decode stage on one frame, its record made by the layout `form`. -/
def processFrame (form : DecodedFrame → DecodedFrame) (h : FrameHead) (function : Byte) (p : List Byte)
    (s : State) : Host.Outcome State Fault Refusal :=
  .next (decodeStage h.inGrace (form (header h function p)) s)

/-- RD01, response form (R115, R114). -/
def execRd01Rsp (h : FrameHead) (p : List Byte) (s : State) : Host.Outcome State Fault Refusal :=
  processFrame readResponse h 0x01#8 p s

/-- RD01, request form (R115, R114). -/
def execRd01Req (h : FrameHead) (p : List Byte) (s : State) : Host.Outcome State Fault Refusal :=
  processFrame readRequest h 0x01#8 p s

/-- RD02, response form (R116, R114). -/
def execRd02Rsp (h : FrameHead) (p : List Byte) (s : State) : Host.Outcome State Fault Refusal :=
  processFrame readResponse h 0x02#8 p s

/-- RD02, request form (R116, R114). -/
def execRd02Req (h : FrameHead) (p : List Byte) (s : State) : Host.Outcome State Fault Refusal :=
  processFrame readRequest h 0x02#8 p s

/-- RD03, response form (R117, R114). -/
def execRd03Rsp (h : FrameHead) (p : List Byte) (s : State) : Host.Outcome State Fault Refusal :=
  processFrame readResponse h 0x03#8 p s

/-- RD03, request form (R117, R114). -/
def execRd03Req (h : FrameHead) (p : List Byte) (s : State) : Host.Outcome State Fault Refusal :=
  processFrame readRequest h 0x03#8 p s

/-- RD04, response form (R118, R114). -/
def execRd04Rsp (h : FrameHead) (p : List Byte) (s : State) : Host.Outcome State Fault Refusal :=
  processFrame readResponse h 0x04#8 p s

/-- RD04, request form (R118, R114). -/
def execRd04Req (h : FrameHead) (p : List Byte) (s : State) : Host.Outcome State Fault Refusal :=
  processFrame readRequest h 0x04#8 p s

/-- WS05 (R119). -/
def execWs05 (h : FrameHead) (p : List Byte) (s : State) : Host.Outcome State Fault Refusal :=
  processFrame writeSingle h 0x05#8 p s

/-- WS06 (R120). -/
def execWs06 (h : FrameHead) (p : List Byte) (s : State) : Host.Outcome State Fault Refusal :=
  processFrame writeSingle h 0x06#8 p s

/-- WM0F with `L = 4` (R121). -/
def execWm0fRsp (h : FrameHead) (p : List Byte) (s : State) : Host.Outcome State Fault Refusal :=
  processFrame writeMultiResponse h 0x0F#8 p s

/-- WM0F with `L ≥ 5` (R121). -/
def execWm0fReq (h : FrameHead) (p : List Byte) (s : State) : Host.Outcome State Fault Refusal :=
  processFrame writeMultiRequest h 0x0F#8 p s

/-- WM0F with `L ≤ 3` (R121). -/
def execWm0fUnk (h : FrameHead) (p : List Byte) (s : State) : Host.Outcome State Fault Refusal :=
  processFrame writeMultiUnknown h 0x0F#8 p s

/-- WM10 with `L = 4` (R122). -/
def execWm10Rsp (h : FrameHead) (p : List Byte) (s : State) : Host.Outcome State Fault Refusal :=
  processFrame writeMultiResponse h 0x10#8 p s

/-- WM10 with `L ≥ 5` (R122). -/
def execWm10Req (h : FrameHead) (p : List Byte) (s : State) : Host.Outcome State Fault Refusal :=
  processFrame writeMultiRequest h 0x10#8 p s

/-- WM10 with `L ≤ 3` (R122). -/
def execWm10Unk (h : FrameHead) (p : List Byte) (s : State) : Host.Outcome State Fault Refusal :=
  processFrame writeMultiUnknown h 0x10#8 p s

/-- EXC: any function byte with bit 7 set (R123). -/
def execExc (h : FrameHead) (base : BitVec 7) (p : List Byte) (s : State) : Host.Outcome State Fault Refusal :=
  processFrame exceptionFrame h (exceptionByte base) p s

/-- OTHER: bit 7 clear and no family of its own (R124). -/
def execOther (h : FrameHead) (base : BitVec 7) (p : List Byte) (s : State) : Host.Outcome State Fault Refusal :=
  processFrame otherFrame h (plainByte base) p s

end Sys2Proof.Machine
end

