-- ==== Sys2Proof/Machine/Scanner.lean ====
section
/-! DEFINITION. The Link Parameter Scanner (44_scanner.md): its procedures, and the operations `SCAN_START` and
`SCAN_CANCEL`. -/

namespace Sys2Proof.Machine

/-- The opening of candidate `c` (R164): configure, open and discard, in that order; counters and window start. -/
def openCandidate (t : Stamp) (c : LinkConfig) (s : State) : State :=
  let s := { s with actBaud := c.baud, actLinecfg := linecfgOf c }
  let s := emit .discard (openSource (emit (.configure c) s))
  { s with buf := [], scanTotal := 0, scanValid := 0, tOpen := t }

/-- `BeginCandidate(t)`: the candidate at `CAND_IDX`, or E_E when the list is exhausted (R164, R166). -/
def beginCandidate (t : Stamp) (s : State) : State :=
  match s.cfg.scanCands[s.candIdx]? with
  | none => raise .exhaustion s
  | some c => openCandidate t c s

/-- The acceptance test `SCAN_TOTAL > 0 ∧ 5 × SCAN_VALID ≥ 4 × SCAN_TOTAL` (R171). -/
def ratioAccepted (s : State) : Bool :=
  decide (0 < s.scanTotal) && decide (acceptNum * s.scanTotal ≤ acceptDen * s.scanValid)

/-- `Evaluate(t)` (R171). -/
def evaluate (t : Stamp) (s : State) : State :=
  if ratioAccepted s then
    finish .accepted { s with foundBaud := s.actBaud, foundLinecfg := s.actLinecfg }
  else beginCandidate t { s with candIdx := s.candIdx + 1 }

/-- The end of a candidate's observation by the scanner: `SRC_CLOSE`, and BUF is dropped uncounted (R172). -/
def closeObservation (s : State) : State := { closeSource s with buf := [] }

/-- The end of a candidate's observation by the source itself: no `SRC_CLOSE` (R170, R172). -/
def loseObservation (s : State) : State := { s with lineOpen := false, buf := [] }

/-- What reaches the scanner (R167). -/
inductive LineEvent where
  | byte (b : Byte)
  | ended
  | tick
  deriving DecidableEq, Repr

/-- The end of the observation by an event: the source has ended by itself, or the scanner closes it (R172). -/
def endObservation (ev : LineEvent) (s : State) : State :=
  match ev with
  | .ended => loseObservation s
  | .byte _ => closeObservation s
  | .tick => closeObservation s

/-- The window of the candidate is over: `t − T_OPEN ≥ ACT_WINDOW` (R168). -/
def windowOver (t : Stamp) (s : State) : Bool := decide (s.actWindow.toNat ≤ elapsed t s.tOpen)

/-- `ScanEvent(t, ev)`: pending cancel, then `RXEND`, then window expiry, then the byte (R167, R231 (5)). -/
def scanEvent (t : Stamp) (ev : LineEvent) (s : State) : State :=
  if s.cancelReq then finish .cancelled (endObservation ev s)
  else match ev with
    | .ended => evaluate t (loseObservation s)
    | .byte b => if windowOver t s then evaluate t (closeObservation s) else reassemble t b s
    | .tick => if windowOver t s then evaluate t (closeObservation s) else s

/-- `SCAN_START(t)` (R163). -/
def scanStartCommand (t : Stamp) (s : State) : State :=
  if s.mode ≠ .idle ∨ s.scanWindow = 0 then refuse s
  else
    beginCandidate t
      { s with
        mode := .scan
        candIdx := 0
        cancelReq := false
        scanOutcome := .none
        actWindow := s.scanWindow
        actDiscard := optDiscard s.opts
        actGraceEn := false }

/-- `SCAN_CANCEL(t)`: only sets the cooperative flag (R173). -/
def scanCancelCommand (s : State) : State :=
  if s.mode = .scan then { s with cancelReq := true } else refuse s

/-- `SCAN_START` (R163). -/
def execScanStart (t : Stamp) (s : State) : Host.Outcome State Fault Refusal := .next (scanStartCommand t s)

/-- `SCAN_CANCEL` (R173); its timestamp is not used. -/
def execScanCancel (_t : Stamp) (s : State) : Host.Outcome State Fault Refusal := .next (scanCancelCommand s)

end Sys2Proof.Machine
end

