-- ==== Sys2Proof/Machine/Line.lean ====
section
/-! DEFINITION. The line events `RXBYTE`, `RXEND` and `TICK` in the three modes (40_reassembler.md R83, R89, R91, R92;
44_scanner.md R167). -/

namespace Sys2Proof.Machine

/-- `RXEND` in CAPTURE: the tail is flushed with `MODE` still CAPTURE, then the session ends with E_D; no `SRC_CLOSE`
(R89, R224). -/
def captureEnded (s : State) : State :=
  raise .sourceFault { flush s with lineOpen := false, mode := .idle }

/-- `RXBYTE(t, b)`. -/
def execRxbyte (t : Stamp) (b : Byte) (s : State) : Host.Outcome State Fault Refusal :=
  .next (match s.mode with
    | .idle => s
    | .capture => reassemble t b s
    | .scan => scanEvent t (.byte b) s)

/-- `RXEND(t)`. -/
def execRxend (t : Stamp) (s : State) : Host.Outcome State Fault Refusal :=
  .next (match s.mode with
    | .idle => s
    | .capture => captureEnded s
    | .scan => scanEvent t .ended s)

/-- `TICK(t)`: in CAPTURE and IDLE nothing, there is no timeout (R92). -/
def execTick (t : Stamp) (s : State) : Host.Outcome State Fault Refusal :=
  .next (match s.mode with
    | .idle => s
    | .capture => s
    | .scan => scanEvent t .tick s)

end Sys2Proof.Machine
end

