-- ==== Sys2Proof/Machine/Commands.lean ====
section
/-! DEFINITION. The host commands `OPEN`, `CLOSE`, `REC_POP`, `SOFT_RESET` and the refused `CMD` values
(46_host_commands.md R205 to R213), and the command of a value written to `CMD` (30_encoding.md R72). -/

namespace Sys2Proof.Machine

/-- `OPEN(t)`: refused unless `MODE = IDLE`, `BAUD ≠ 0` and `PARITY ≠ 3`; else the configuration is latched and the
line opened (R205). -/
def openCommand (t : Stamp) (s : State) : State :=
  match linkOfRegisters s.baud s.linecfg with
  | none => refuse s
  | some link =>
    if s.mode ≠ .idle ∨ s.baud = 0 then refuse s
    else
      let s :=
        { s with
          actBaud := s.baud
          actLinecfg := s.linecfg
          actDiscard := optDiscard s.opts
          actGraceEn := optGrace s.opts
          actGraceTicks := s.graceTicks }
      { openSource (emit (.configure link) s) with tOpen := t, mode := .capture }

/-- `CLOSE(t)`: refused unless `MODE = CAPTURE`; the tail is flushed with `MODE` still CAPTURE (R206). -/
def closeCommand (s : State) : State :=
  if s.mode ≠ .capture then refuse s
  else { closeSource (flush s) with mode := .idle }

/-- `REC_POP`: refused while DFQ is empty (R207). -/
def recPopCommand (s : State) : State :=
  match s.dfq with
  | [] => refuse s
  | _ :: rest => { s with dfq := rest, recCur := 0 }

/-- `SOFT_RESET`: `SRC_CLOSE` first if a line is open, then as hardware reset (R212, R250). -/
def softResetCommand (s : State) : State := hardReset (if s.lineOpen then emit .closeSource s else s)

/-- `WR(CMD, k)`: the command with code `k` at the time of the write (R26, R208). -/
def runCommand (t : Stamp) (k : Word) (s : State) : State :=
  match k.toNat with
  | 1 => openCommand t s
  | 2 => closeCommand s
  | 3 => scanStartCommand t s
  | 4 => scanCancelCommand s
  | 5 => recPopCommand s
  | 6 => softResetCommand s
  | _ => refuse s

/-- `OPEN` (R205). -/
def execOpen (t : Stamp) (s : State) : Host.Outcome State Fault Refusal := .next (openCommand t s)

/-- `CLOSE` (R206); its timestamp is not used, the tail keeps `T_PREV` (R88). -/
def execClose (_t : Stamp) (s : State) : Host.Outcome State Fault Refusal := .next (closeCommand s)

/-- `REC_POP` (R207). -/
def execRecPop (_t : Stamp) (s : State) : Host.Outcome State Fault Refusal := .next (recPopCommand s)

/-- `SOFT_RESET` (R212). -/
def execSoftReset (_t : Stamp) (s : State) : Host.Outcome State Fault Refusal := .next (softResetCommand s)

/-- A `CMD` value outside 1 to 6 (R72, R226). -/
def execCmdIllegal (_t : Stamp) (_v : Word) (s : State) : Host.Outcome State Fault Refusal := .next (refuse s)

end Sys2Proof.Machine
end

