-- ==== Sys2Proof/Machine/Registers.lean ====
section
/-! DEFINITION. The host register space: what each register reads as (30_encoding.md R71 to R76, 10_state.md R25 to
R27), and the operations `WR` and `RD` (46_host_commands.md R208, R209). -/

namespace Sys2Proof.Machine

/-- The code of `MODE` in `STATUS` (R15, R73). -/
def modeCode : Mode → Word
  | .idle => 0
  | .capture => 1
  | .scan => 2

/-- The code of `SCAN_OUTCOME` (R24, R73). -/
def outcomeCode : ScanOutcome → Word
  | .none => 0
  | .accepted => 1
  | .exhausted => 2
  | .cancelled => 3

/-- The code of a frame's class in `REC_HDR` (R74). -/
def classCode : FrameClass → Word
  | .request => 0
  | .response => 1
  | .deferred => 2
  | .unknown => 3

/-- `STATUS`, a view with no state of its own (R25, R73). -/
def statusWord (s : State) : Word :=
  modeCode s.mode
  ||| (bit s.lineOpen <<< 2)
  ||| (bit (decide (s.buf ≠ [])) <<< 3)
  ||| (bit (decide (s.cfq ≠ [])) <<< 4)
  ||| (bit (decide (s.dfq ≠ [])) <<< 5)
  ||| (outcomeCode s.scanOutcome <<< 6)
  ||| (bit s.cancelReq <<< 8)

/-- `REC_HDR` of a record (R74). -/
def recHdrWord (d : DecodedFrame) : Word :=
  d.address.setWidth 32
  ||| (d.function.setWidth 32 <<< 8)
  ||| (classCode d.cls <<< 16)
  ||| (bit d.crcValid <<< 18)
  ||| (bit d.exception <<< 19)
  ||| (bit d.firstReg.isSome <<< 20)
  ||| (bit d.count.isSome <<< 21)
  ||| (bit d.bcf.isSome <<< 22)
  ||| (bit d.errorCode.isSome <<< 23)

/-- `REC_F0` of a record: `firstReg` and `count`, 0 when NA (R75). -/
def recF0Word (d : DecodedFrame) : Word :=
  (d.firstReg.getD 0).setWidth 32 ||| ((d.count.getD 0).setWidth 32 <<< 16)

/-- `REC_F1` of a record: `bcf`, `errorCode`, 0 when NA, and the CRC bytes in wire order (R75). -/
def recF1Word (d : DecodedFrame) : Word :=
  (d.bcf.getD 0).setWidth 32
  ||| ((d.errorCode.getD 0).setWidth 32 <<< 8)
  ||| (d.crcLo.setWidth 32 <<< 16)
  ||| (d.crcHi.setWidth 32 <<< 24)

/-- A length in a 16-bit field of `REC_LEN`; above 65535 the value is free (R76). -/
def lengthField (n : Nat) : Half := if n < 2 ^ 16 then BitVec.ofNat 16 n else Config.wideLength n

/-- `REC_LEN` of a record: `len(payload)` and `dataOff` (R76). -/
def recLenWord (d : DecodedFrame) : Word :=
  (lengthField d.payload.length).setWidth 32 ||| ((lengthField d.dataOff).setWidth 32 <<< 16)

/-- A natural-number counter in the 32-bit register `r`; from 2^32 on the value is free (R24). -/
def counterWord (r : Reg) (n : Nat) : Word :=
  if n < 2 ^ 32 then BitVec.ofNat 32 n else Config.wideCounter (regOffset r) n

/-- A register of the record window: of the head of DFQ, 0 while DFQ is empty (R27). -/
def windowWord (view : DecodedFrame → Word) (s : State) : Word :=
  match s.dfq with
  | [] => 0
  | d :: _ => view d

/-- The byte at the cursor, which `REC_DATA` returns next; none at the end of the payload or while DFQ is empty (R27). -/
def cursorByte (s : State) : Option Byte :=
  match s.dfq with
  | [] => none
  | d :: _ => d.payload[s.recCur]?

/-- What a host register reads as (R46, R71 to R76). -/
def readRegister (r : Reg) (s : State) : Word :=
  match r with
  | .cmd => 0
  | .status => statusWord s
  | .flags => s.flags &&& flagsMask
  | .baud => s.baud
  | .linecfg => s.linecfg &&& linecfgMask
  | .opts => s.opts &&& optsMask
  | .graceTicks => s.graceTicks
  | .scanWindow => s.scanWindow
  | .actBaud => s.actBaud
  | .actLinecfg => s.actLinecfg &&& linecfgMask
  | .actOpts => bit s.actDiscard ||| (bit s.actGraceEn <<< 1)
  | .actGraceTicks => s.actGraceTicks
  | .actWindow => s.actWindow
  | .candIdx => counterWord .candIdx s.candIdx
  | .scanTotal => counterWord .scanTotal s.scanTotal
  | .scanValid => counterWord .scanValid s.scanValid
  | .foundBaud => s.foundBaud
  | .foundLinecfg => s.foundLinecfg &&& linecfgMask
  | .reserved48 => 0
  | .reserved4C => 0
  | .recHdr => windowWord recHdrWord s
  | .recF0 => windowWord recF0Word s
  | .recF1 => windowWord recF1Word s
  | .recLen => windowWord recLenWord s
  | .recTsLo => windowWord (fun d => d.ts.setWidth 32) s
  | .recTsHi => windowWord (fun d => (d.ts >>> 32).setWidth 32) s
  | .recData => ((cursorByte s).getD 0).setWidth 32

/-- The side effect of a read: only `REC_DATA` has one, the cursor's advance past a byte it returned (R27, R45). -/
def afterRead (r : Reg) (s : State) : State :=
  match r with
  | .recData => if (cursorByte s).isSome then { s with recCur := s.recCur + 1 } else s
  | _ => s

/-- `WR(reg, v)`: configuration registers store the bits that do not "read 0", `FLAGS` is write-1-to-clear, `CMD` runs
the command, the rest ignore writes (R208, R47). -/
def writeRegister (t : Stamp) (r : Reg) (v : Word) (s : State) : State :=
  match r with
  | .cmd => runCommand t v s
  | .flags => clearFlags v s
  | .baud => { s with baud := v }
  | .linecfg => { s with linecfg := v &&& linecfgMask }
  | .opts => { s with opts := v &&& optsMask }
  | .graceTicks => { s with graceTicks := v }
  | .scanWindow => { s with scanWindow := v }
  | .status | .actBaud | .actLinecfg | .actOpts | .actGraceTicks | .actWindow | .candIdx | .scanTotal
  | .scanValid | .foundBaud | .foundLinecfg | .reserved48 | .reserved4C | .recHdr | .recF0 | .recF1
  | .recLen | .recTsLo | .recTsHi | .recData => s

/-- `WR(reg, v)` at time `t` (R208). -/
def execWr (t : Stamp) (r : Reg) (v : Word) (s : State) : Host.Outcome State Fault Refusal :=
  .next (writeRegister t r v s)

/-- `RD(reg)` returns the register's value to the host (R209). -/
def execRd (_t : Stamp) (r : Reg) (s : State) : Host.Outcome State Fault Refusal :=
  .next { afterRead r s with rdata := readRegister r s }

end Sys2Proof.Machine
end

