-- ==== Sys2Proof/Machine/SourcePort.lean ====
section
/-! DEFINITION. The output actions toward the byte source as operations (46_host_commands.md R201 to R204). Inside
`OPEN`, `CLOSE`, `SOFT_RESET` and the scanner they are `emit`, `openSource` and `closeSource` of Machine/Ops.lean. -/

namespace Sys2Proof.Machine

/-- `SRC_CONFIGURE`: hands the LinkConfig to the byte source and changes no state of the block; emitted only directly
before `SRC_OPEN`, hence with no line open (R201). -/
def execSrcConfigure (c : LinkConfig) (s : State) : Host.Outcome State Fault Refusal :=
  if s.lineOpen then .refused (.actionNotEmitted (.configure c)) else .next (emit (.configure c) s)

/-- `SRC_OPEN`: emitted only when `LINE_OPEN = 0`; sets it (R202). -/
def execSrcOpen (s : State) : Host.Outcome State Fault Refusal :=
  if s.lineOpen then .refused (.actionNotEmitted .openSource) else .next (openSource s)

/-- `SRC_CLOSE`: emitted only when `LINE_OPEN = 1`; clears it (R203). -/
def execSrcClose (s : State) : Host.Outcome State Fault Refusal :=
  if s.lineOpen then .next (closeSource s) else .refused (.actionNotEmitted .closeSource)

/-- `SRC_DISCARD`: asks the byte source to drop the bytes it holds undelivered; emitted directly after `SRC_OPEN`, hence
with the line open (R204). -/
def execSrcDiscard (s : State) : Host.Outcome State Fault Refusal :=
  if s.lineOpen then .next (emit .discard s) else .refused (.actionNotEmitted .discard)

end Sys2Proof.Machine
end

