-- ==== Sys2Proof/Machine/Dispatch.lean ====
section
/-! DEFINITION. One arm per operation of the table, each one direct call of its meaning. -/

namespace Sys2Proof.Machine

/-- The meaning of an operation. -/
def exec (i : Instr) (s : State) : Host.Outcome State Fault Refusal :=
  match i with
  | .rd01Rsp h p => Sys2Proof.Machine.execRd01Rsp h p s
  | .rd01Req h p => Sys2Proof.Machine.execRd01Req h p s
  | .rd02Rsp h p => Sys2Proof.Machine.execRd02Rsp h p s
  | .rd02Req h p => Sys2Proof.Machine.execRd02Req h p s
  | .rd03Rsp h p => Sys2Proof.Machine.execRd03Rsp h p s
  | .rd03Req h p => Sys2Proof.Machine.execRd03Req h p s
  | .rd04Rsp h p => Sys2Proof.Machine.execRd04Rsp h p s
  | .rd04Req h p => Sys2Proof.Machine.execRd04Req h p s
  | .ws05 h p => Sys2Proof.Machine.execWs05 h p s
  | .ws06 h p => Sys2Proof.Machine.execWs06 h p s
  | .wm0fRsp h p => Sys2Proof.Machine.execWm0fRsp h p s
  | .wm0fReq h p => Sys2Proof.Machine.execWm0fReq h p s
  | .wm0fUnk h p => Sys2Proof.Machine.execWm0fUnk h p s
  | .wm10Rsp h p => Sys2Proof.Machine.execWm10Rsp h p s
  | .wm10Req h p => Sys2Proof.Machine.execWm10Req h p s
  | .wm10Unk h p => Sys2Proof.Machine.execWm10Unk h p s
  | .exc h base p => Sys2Proof.Machine.execExc h base p s
  | .other h base p => Sys2Proof.Machine.execOther h base p s
  | .openCmd t => Sys2Proof.Machine.execOpen t s
  | .closeCmd t => Sys2Proof.Machine.execClose t s
  | .scanStart t => Sys2Proof.Machine.execScanStart t s
  | .scanCancel t => Sys2Proof.Machine.execScanCancel t s
  | .recPop t => Sys2Proof.Machine.execRecPop t s
  | .softReset t => Sys2Proof.Machine.execSoftReset t s
  | .cmdIllegal t v => Sys2Proof.Machine.execCmdIllegal t v s
  | .rxbyte t b => Sys2Proof.Machine.execRxbyte t b s
  | .rxend t => Sys2Proof.Machine.execRxend t s
  | .tick t => Sys2Proof.Machine.execTick t s
  | .decodeStep => Sys2Proof.Machine.execDecodeStep s
  | .wr t r v => Sys2Proof.Machine.execWr t r v s
  | .rd t r => Sys2Proof.Machine.execRd t r s
  | .srcConfigure c => Sys2Proof.Machine.execSrcConfigure c s
  | .srcOpen => Sys2Proof.Machine.execSrcOpen s
  | .srcClose => Sys2Proof.Machine.execSrcClose s
  | .srcDiscard => Sys2Proof.Machine.execSrcDiscard s

end Sys2Proof.Machine
end

