-- ==== Sys2Proof/Machine/Fetch.lean ====
section
/-! DEFINITION. What the next step runs. "The block fetches no instructions and has no program counter" (10_state.md
R14): the next operation is whatever arrives next at the block's ports (45_pipeline.md R186), here the head of
`inputs`; with nothing to arrive the decode stage works off CFQ (R189, R194), and with CFQ empty too only time passes. -/

namespace Sys2Proof.Machine

/-- The timestamp an input carries; the decode stage's own moment and the reset input carry none (R6, R79). -/
def inputStamp : Input → Option Stamp
  | .rx t _ => some t
  | .ended t => some t
  | .tick t => some t
  | .write t _ _ _ => some t
  | .read t _ _ => some t
  | .dec => none
  | .hardReset => none

/-- `TIME` as an input finds it: its timestamp, or `TIME` unchanged where it carries none. None where the timestamp is
below `TIME`: timestamps of successive events do not decrease (R8). -/
def timeAfter (x : Input) (now : Stamp) : Option Stamp :=
  match inputStamp x with
  | none => some now
  | some t => if now.toNat ≤ t.toNat then some t else none

/-- One tick of `TIME` with nothing else happening; reaching 2^64 is outside the model (R6). -/
def passTime (s : State) : Host.Outcome State Fault Refusal :=
  if s.time.toNat + 1 < 2 ^ 64 then .next { s with time := s.time + 1 } else .refused .clockExhausted

/-- What the next step is: an operation run in a state, or something the step settles without one. -/
inductive Fetched where
  | run (i : Instr) (s : State)
  | settled (o : Host.Outcome State Fault Refusal)

/-- The operation of an input that has arrived, in the state without it and at its time; the reset input and what the
spec gives no step are settled here (R250, R8, R47). -/
def arrive (x : Input) (s : State) : Fetched :=
  match timeAfter x s.time with
  | none => .settled (.refused .clockRunsBack)
  | some now =>
    match decodeInput x with
    | .ok i => .run i { s with time := now }
    | .error .resetInput => .settled (.next (hardReset s))
    | .error e => .settled (.refused (.undefinedAccess e))

/-- The next step of a state. -/
def fetch (s : State) : Fetched :=
  match s.inputs with
  | x :: rest => arrive x { s with inputs := rest }
  | [] => if s.cfq = [] then .settled (passTime s) else .run .decodeStep s

/-- The state in which the next step runs this code: an event or access arrives next; a frame stands at the head of CFQ
and the decode stage acts next. An output action is no input: nothing is placed for it. -/
def placeCode (c : Code) (s : State) : State :=
  match c with
  | .input x => { s with inputs := x :: s.inputs }
  | .frame cf => { s with cfq := cf :: s.cfq, inputs := .dec :: s.inputs }
  | .action _ => s

/-- The state in which the next step runs the opcode-table word `w`. -/
def placeWord (nbits w : Nat) (s : State) : State :=
  match tableCode s.time nbits w with
  | none => s
  | some c => placeCode c s

end Sys2Proof.Machine
end

