-- ==== Sys2Proof/Machine/Step.lean ====
section
/-! DEFINITION. One step of the block: one atomic operation (00_scope.md section 5, 45_pipeline.md R186). -/

namespace Sys2Proof.Machine

/-- The step: what `fetch` finds, run by `exec`. -/
def step (s : State) : Host.Outcome State Fault Refusal :=
  match fetch s with
  | .run i s' => exec i s'
  | .settled o => o

/-- The state with an opcode-table word placed so that the next step runs it (assumption 4). -/
def State.withFetchWord (s : State) (nbits w : Nat) : State := placeWord nbits w s

end Sys2Proof.Machine
end

