-- ==== Sys2Proof/Machine/HostView.lean ====
section
/-! DEFINITION. What a DecodedFrame gives the host-side Correlator, which lies outside the block (00_scope.md R3): the keys
of 43_host_correlator.md R141 and R142 and the fields of the output record the block supplies (30_encoding.md R77).
Nothing in the machine depends on it. -/

namespace Sys2Proof.Machine

/-- CorrelationKey: `(address, baseFunction)` (R141). -/
def correlationKey (d : DecodedFrame) : Byte × BitVec 7 := (d.address, d.baseFunction)

/-- MessageSignature: address, function, first register, count, byte-count-following and "CRC text", "excluding
counter/time/payload" (R142). What "CRC text" is the spec leaves open (R155); here it is the received CRC as its two raw
bytes, in the order of their arrival, not rendered as text [DESIGN CHOICE: assumption 24]. -/
structure MessageSignature where
  address  : Byte
  function : Byte
  firstReg : Option Half
  count    : Option Half
  bcf      : Option Byte
  crcLo    : Byte
  crcHi    : Byte
  deriving DecidableEq, Repr

/-- The signature of a DecodedFrame (R142); `receivedCRC` stands for "CRC text" as the raw pair `crcLo`, `crcHi`
[DESIGN CHOICE: assumption 24]. -/
def messageSignature (d : DecodedFrame) : MessageSignature where
  address := d.address
  function := d.function
  firstReg := d.firstReg
  count := d.count
  bcf := d.bcf
  crcLo := d.crcLo
  crcHi := d.crcHi

/-- The tuple whose occurrences the host counts for a DEFERRED frame: `(address, baseFunction, payload)` (R146). -/
def occurrenceTuple (d : DecodedFrame) : Byte × BitVec 7 × List Byte := (d.address, d.baseFunction, d.payload)

/-- The fields of the output record that the block supplies (R77); `errorCode` stands for the "textual exception
description" the host takes from EXC_DESC (R130). The sequence counter, the time display and the final message type of a
DEFERRED or UNKNOWN frame are the host's. -/
structure SuppliedFields where
  cls       : FrameClass
  address   : Byte
  function  : Byte
  firstReg  : Option Half
  count     : Option Half
  errorCode : Option Byte
  bcf       : Option Byte
  payload   : List Byte
  data      : List Byte
  crcLo     : Byte
  crcHi     : Byte
  crcValid  : Bool
  deriving DecidableEq, Repr

/-- The fields a DecodedFrame supplies (R77). -/
def suppliedFields (d : DecodedFrame) : SuppliedFields where
  cls := d.cls
  address := d.address
  function := d.function
  firstReg := d.firstReg
  count := d.count
  errorCode := d.errorCode
  bcf := d.bcf
  payload := d.payload
  data := d.data
  crcLo := d.crcLo
  crcHi := d.crcHi
  crcValid := d.crcValid

end Sys2Proof.Machine
end

