-- ==== Sys2Proof/Safety.lean ====
section
/-! DEFINITION. What the spec promises of every reachable state and of what the block emits, the state invariants of
10_state.md and the byte-source protocol of 46_host_commands.md R202 to R204; and what it assumes of an endless run, the
fairness of 45_pipeline.md R194 and 70_reset_and_hazards.md R262. -/

namespace Sys2Proof.Machine

/-- `LINE_OPEN` and `MODE` agree (R16; that a scan holds its line open is R164, R172), and `LEN = 0` whenever
`LINE_OPEN = 0` (R11). -/
def LineInv (s : State) : Prop :=
  (s.lineOpen = true ↔ s.mode ≠ .idle) ∧ (s.lineOpen = false → s.buf = [])

/-- No store holds more than its capacity (R11, R19, R20). -/
def CapacityInv (s : State) : Prop :=
  (∀ c, s.cfg.bufCap = some c → s.buf.length ≤ c) ∧ (∀ c, s.cfg.cfqDepth = some c → s.cfq.length ≤ c)
  ∧ s.dfq.length ≤ s.cfg.dfqDepth

/-- Every entry of CFQ is a CandidateFrame: at least 4 bytes (R19, R86). -/
def CandidateInv (s : State) : Prop := ∀ cf ∈ s.cfq, minFrame ≤ cf.bytes.length

/-- Registers read 0 in the bits the layouts leave out (R71, R73). -/
def ReservedBitsInv (s : State) : Prop :=
  s.linecfg &&& ~~~linecfgMask = 0 ∧ s.opts &&& ~~~optsMask = 0 ∧ s.flags &&& ~~~flagsMask = 0
  ∧ s.actLinecfg &&& ~~~linecfgMask = 0 ∧ s.foundLinecfg &&& ~~~linecfgMask = 0

/-- `SCAN_VALID ≤ SCAN_TOTAL` (R169); `CAND_IDX` never passes the end of the list, and while a scan runs it is the index
of a candidate whose LinkConfig is the latched one (R14, R24, R164). -/
def ScanInv (s : State) : Prop :=
  s.scanValid ≤ s.scanTotal ∧ s.candIdx ≤ s.cfg.scanCands.length
  ∧ (s.mode = .scan →
      ∃ c, s.cfg.scanCands[s.candIdx]? = some c ∧ s.actBaud = c.baud ∧ s.actLinecfg = linecfgOf c)

/-- `TIME` is not below the opening of the running session, nor below the last byte of BUF, which is not below that
opening (R8, R87 "`seg.ts ≥ T_OPEN` always"). -/
def TimeInv (s : State) : Prop :=
  (s.mode ≠ .idle → s.tOpen.toNat ≤ s.time.toNat)
  ∧ (s.buf ≠ [] → s.tOpen.toNat ≤ s.tPrev.toNat ∧ s.tPrev.toNat ≤ s.time.toNat)

/-- `REC_CUR` is an index of the head's payload or just past it, 0 while DFQ is empty (R27). -/
def CursorInv (s : State) : Prop :=
  match s.dfq with
  | [] => s.recCur = 0
  | d :: _ => s.recCur ≤ d.payload.length

/-- A DecodedFrame says of itself what its bytes say (R66, R68, R103): the header fields come from its function byte,
`crcValid` from its own bytes, and the data slice starts inside the payload. -/
def RecordInv (d : DecodedFrame) : Prop :=
  d.exception = isException d.function ∧ d.baseFunction = baseFunction d.function
  ∧ d.crcValid = frameCrcValid ⟨d.address, d.function, d.payload, d.crcLo, d.crcHi⟩
  ∧ d.dataOff ≤ d.payload.length

/-- No frame is longer than BUF, so an instance with BUF_CAP ≤ 65539 has payloads of at most 65535 bytes, which
`REC_LEN` can show (R76, R90). -/
def LengthInv (s : State) : Prop :=
  ∀ c, s.cfg.bufCap = some c →
    (∀ cf ∈ s.cfq, cf.bytes.length ≤ c) ∧ ∀ d ∈ s.dfq, d.payload.length + minFrame ≤ c

/-- The invariant of the block. -/
structure Invariant (s : State) : Prop where
  line      : LineInv s
  capacity  : CapacityInv s
  candidate : CandidateInv s
  reserved  : ReservedBitsInv s
  scan      : ScanInv s
  times     : TimeInv s
  cursor    : CursorInv s
  records   : ∀ d ∈ s.dfq, RecordInv d
  lengths   : LengthInv s

/-- The byte-source protocol: with the handle open or not, which actions may follow and what they leave.
`SRC_CONFIGURE` and `SRC_OPEN` need it closed, `SRC_CLOSE` and `SRC_DISCARD` open (R201 to R204); none marks a
violation, in particular a second handle. -/
def runActions : Bool → List SrcAction → Option Bool
  | h, [] => some h
  | false, .configure _ :: rest => runActions false rest
  | false, .openSource :: rest => runActions true rest
  | true, .closeSource :: rest => runActions false rest
  | true, .discard :: rest => runActions true rest
  | true, .configure _ :: _ => none
  | true, .openSource :: _ => none
  | false, .closeSource :: _ => none
  | false, .discard :: _ => none

/-- The handle as a step finds it: open as `LINE_OPEN` says, but already gone when the source has ended by itself
(`RXEND`) or the block is reset by its input (R89, R170, R250). -/
def handleBefore (s : State) : Bool :=
  match s.inputs with
  | .ended _ :: _ => false
  | .hardReset :: _ => false
  | _ => s.lineOpen

/-! Endless runs. -/

/-- Inputs arrive at the ports, after those already there. -/
def feed (xs : List Input) (s : State) : State := { s with inputs := s.inputs ++ xs }

/-- An endless run `σ`: before step `n` the surroundings let `arrivals n` arrive. -/
def Execution (arrivals : Nat → List Input) (σ : Nat → State) : Prop :=
  ∀ n, step (feed (arrivals n) (σ n)) = .next (σ (n + 1))

/-- What step `n` of a run takes from the ports, none where nothing has arrived. -/
def taken (arrivals : Nat → List Input) (σ : Nat → State) (n : Nat) : Option Input :=
  (feed (arrivals n) (σ n)).inputs.head?

/-- The timestamp of an event that shows the scanner the time: `RXBYTE`, `RXEND`, `TICK` (R167). -/
def scannerStamp : Input → Option Stamp
  | .rx t _ => some t
  | .ended t => some t
  | .tick t => some t
  | .write _ _ _ _ => none
  | .read _ _ _ => none
  | .dec => none
  | .hardReset => none

/-- The fairness assumption of R262: "while `MODE = SCAN`, for every time `T` an event with timestamp ≥ `T` eventually
arrives". `T` is a value of the 64-bit `TIME` (R6). -/
def TimeIsSeenToPass (arrivals : Nat → List Input) (σ : Nat → State) : Prop :=
  ∀ (n : Nat) (T : Stamp), ∃ m, n ≤ m ∧
    ((σ m).mode ≠ .scan
      ∨ ∃ x t, taken arrivals σ m = some x ∧ scannerStamp x = some t ∧ T.toNat ≤ t.toNat)

/-- The weak fairness of R194: "if CFQ stays non-empty, a `DECODE_STEP` eventually occurs", at the `DEC` of a trace or
where nothing has arrived. -/
def DecodeIsWeaklyFair (arrivals : Nat → List Input) (σ : Nat → State) : Prop :=
  ∀ n, ∃ m, n ≤ m ∧ ((σ m).cfq = [] ∨ taken arrivals σ m = some .dec ∨ taken arrivals σ m = none)

end Sys2Proof.Machine
end

