-- ==== Sys2Proof/Certificates/Slice0/Obligations.lean ====
section
/-! DEFINITION. The statements for the provers. What a rule says is written here in the spec's own numbers and names of
fields, not by the definitions of Machine/, wherever that is possible; the helpers below are such transcriptions. -/

namespace Sys2Proof.Statement

open Sys2Proof.Machine

/-- `IsFrameGap(g)` of R82. -/
abbrev FrameGap (s : State) (g : Nat) : Prop := 77 * s.cfg.tickHz ≤ 2 * g * s.actBaud.toNat

/-- The lower bound of `IsDiscardGap(g)`, R82. -/
abbrev DiscardGap (s : State) (g : Nat) : Prop := 33 * s.cfg.tickHz ≤ 2 * g * s.actBaud.toNat

/-- The gap before a byte arriving at `t`: `t − T_PREV`. -/
def gap (s : State) (t : Stamp) : Nat := t.toNat - s.tPrev.toNat

/-- A byte arriving at `t` finds no boundary: first byte of a session, or a gap that is neither a frame gap nor, in
discard mode, a discard gap (R83, R85, R94). -/
abbrev NoBoundary (s : State) (t : Stamp) : Prop :=
  s.buf = [] ∨ (¬ FrameGap s (gap s t) ∧ (s.actDiscard = false ∨ ¬ DiscardGap s (gap s t)))

/-- BUF can store a byte when it holds `n` (R83). -/
def Room (s : State) (n : Nat) : Prop := ∀ k, s.cfg.bufCap = some k → n < k

/-- A byte at `t` goes to the Reassembler: in CAPTURE always, in SCAN while no cancel is pending and the candidate's
window is not over (R83, R167). -/
abbrev Reassembled (s : State) (t : Stamp) : Prop :=
  s.mode = .capture
  ∨ (s.mode = .scan ∧ s.cancelReq = false ∧ t.toNat - s.tOpen.toNat < s.actWindow.toNat)

/-- CFQ and `FLAGS` after BUF has been delivered as a CAPTURE-mode Segment ending at `T_PREV` (R84, R86, R87, R188). -/
def delivered (s : State) : List CandidateFrame × Word :=
  if s.buf.length < 4 then (s.cfq, s.flags ||| 0x04#32)
  else if s.cfg.cfqDepth = some s.cfq.length then (s.cfq, s.flags ||| 0x10#32)
  else
    (s.cfq ++ [⟨s.buf, s.tPrev,
      s.actGraceEn && decide (s.tPrev.toNat - s.tOpen.toNat < s.actGraceTicks.toNat)⟩], s.flags)

/-- CFQ and `FLAGS` after `Flush()`: nothing is delivered while `LEN = 0` (R88). -/
def flushed (s : State) : List CandidateFrame × Word := if s.buf = [] then (s.cfq, s.flags) else delivered s

/-- The line bytes of a frame (R61). -/
def frameBytes (h : FrameHead) (fn : Byte) (p : List Byte) : List Byte :=
  [h.address, fn] ++ p ++ [h.crcLo, h.crcHi]

/-- Received CRC bytes equal computed ones (R103). -/
def crcOk (h : FrameHead) (fn : Byte) (p : List Byte) : Bool :=
  decide (h.crcLo.toNat + 256 * h.crcHi.toNat = (crc16 ([h.address, fn] ++ p)).toNat)

/-- The common part of a DecodedFrame (R112): every optional field NA, data the whole payload. -/
def common (h : FrameHead) (fn : Byte) (p : List Byte) (c : FrameClass) : DecodedFrame where
  ts := h.ts
  address := h.address
  function := fn
  baseFunction := fn.setWidth 7
  exception := fn.getLsbD 7
  cls := c
  payload := p
  crcLo := h.crcLo
  crcHi := h.crcHi
  crcValid := crcOk h fn p
  firstReg := none
  count := none
  bcf := none
  errorCode := none
  dataOff := 0

/-- `be16(p, i)` of the bytes there, as a number (R43). -/
def Be16 (p : List Byte) (i : Nat) (v : Half) : Prop :=
  ∃ hi lo, p[i]? = some hi ∧ p[i + 1]? = some lo ∧ v.toNat = hi.toNat * 256 + lo.toNat

/-- `opt16(p, i)`: the big-endian value when both bytes lie inside the payload, else NA (R44). -/
def Opt16 (p : List Byte) (i : Nat) (v : Option Half) : Prop :=
  (i + 1 < p.length ∧ ∃ x, v = some x ∧ Be16 p i x) ∨ (p.length ≤ i + 1 ∧ v = none)

/-- The read family's response test `L ≥ 1 ∧ L = 1 + p[0]` (R62). -/
def ReadResponse (p : List Byte) : Prop := ∃ b rest, p = b :: rest ∧ p.length = 1 + b.toNat

/-- What the decode stage leaves of a state once it has the record `d`: filtered, dropped or pushed (R189 to R191). -/
def staged (inGrace : Bool) (d : DecodedFrame) (s : State) : State :=
  if inGrace = true ∧ d.crcValid = false then s
  else if s.dfq.length = s.cfg.dfqDepth then { s with flags := s.flags ||| 0x08#32 }
  else { s with dfq := s.dfq ++ [d] }

/-- The line closed at the end of a candidate, with `SRC_CLOSE` unless the source ended by itself; BUF is dropped (R172). -/
def observed (emits : Bool) (s : State) : State :=
  { s with
    actions := s.actions ++ (if emits then [SrcAction.closeSource] else [])
    lineOpen := false
    buf := [] }

/-- Candidate `c` opened at `t` (R164). -/
def opened (t : Stamp) (c : LinkConfig) (s : State) : State :=
  { s with
    actBaud := c.baud
    actLinecfg := linecfgOf c
    actions := s.actions ++ [.configure c, .openSource, .discard]
    lineOpen := true
    buf := []
    scanTotal := 0
    scanValid := 0
    tOpen := t }

/-- The scan ended with an outcome (R174). -/
def finished (o : ScanOutcome) (s : State) : State :=
  { s with scanOutcome := o, mode := .idle, flags := s.flags ||| 0x02#32 }

/-- The acceptance test (R171). -/
abbrev Accepts (s : State) : Prop := 0 < s.scanTotal ∧ 4 * s.scanTotal ≤ 5 * s.scanValid

/-- `exec` on a byte after another, stopping at the first that does not answer a next state. -/
def receive : List (Stamp × Byte) → State → Host.Outcome State Fault Refusal
  | [], s => .next s
  | (t, b) :: rest, s =>
    match exec (.rxbyte t b) s with
    | .next s' => receive rest s'
    | o => o

/-- One of the 8 steps of `CrcStep` (R101). -/
def crcBit (c : Half) : Half := if c.getLsbD 0 then (c >>> 1) ^^^ 0xA001#16 else c >>> 1

/-- Between the bytes of the list, the first coming after `u`, no gap is a frame gap at the baud rate and tick rate of `s`. -/
def Close (s : State) : Stamp → List (Stamp × Byte) → Prop
  | _, [] => True
  | u, (t, _) :: rest => ¬ FrameGap s (t.toNat - u.toNat) ∧ Close s t rest

/-- The states one step after another. -/
def Run : State → List State → Prop
  | _, [] => True
  | s, x :: xs => step s = .next x ∧ Run x xs

/-- The event that arrives next ends the observation of the candidate: `RXEND`, or a byte or `TICK` at or past the end
of the window (R167, R168, R170). -/
def EndsObservation (s : State) : Prop :=
  (∃ t rest, s.inputs = .ended t :: rest)
  ∨ (∃ t b rest, s.inputs = .rx t b :: rest ∧ s.actWindow.toNat ≤ t.toNat - s.tOpen.toNat)
  ∨ (∃ t rest, s.inputs = .tick t :: rest ∧ s.actWindow.toNat ≤ t.toNat - s.tOpen.toNat)

/-- A reset arrives next: the reset input, or `SOFT_RESET` written to `CMD`. -/
def ResetNext (s : State) : Prop :=
  (∃ rest, s.inputs = .hardReset :: rest) ∨ (∃ t rest, s.inputs = .write t 0 32 6 :: rest)

/-- The five configuration registers written anew (R17). -/
def withConfig (baud linecfg opts graceTicks scanWindow : Word) (s : State) : State :=
  { s with
    baud := baud, linecfg := linecfg, opts := opts, graceTicks := graceTicks, scanWindow := scanWindow }

/-- What an operation answers, its next state changed by `f`. -/
def mapNext (f : State → State) : Host.Outcome State Fault Refusal → Host.Outcome State Fault Refusal
  | .next s => .next (f s)
  | o => o

/-- Every state element at its reset value (R30), with the two timestamps R30 leaves unspecified as they may be, `TIME`
kept, and the block's surroundings as given. -/
def AfterReset (s : State) (acts : List SrcAction) (s' : State) : Prop :=
  ∃ tp tO : Stamp, s' =
    { cfg := s.cfg, inputs := s.inputs, time := s.time, buf := [], tPrev := tp, tOpen := tO, mode := .idle,
      lineOpen := false, baud := 0, linecfg := 0x1#32, opts := 0, graceTicks := 0,
      scanWindow := BitVec.ofNat 32 (2 * s.cfg.tickHz), actBaud := 0, actLinecfg := 0, actDiscard := false,
      actGraceEn := false, actGraceTicks := 0, actWindow := 0, cfq := [], dfq := [], flags := 0, candIdx := 0,
      scanTotal := 0, scanValid := 0, cancelReq := false, scanOutcome := .none, foundBaud := 0,
      foundLinecfg := 0, recCur := 0, actions := acts, rdata := s.rdata }

/-- The registers whose writes are ignored: read-only and reserved ones (R46). -/
def readOnlyRegs : List Reg :=
  [.status, .actBaud, .actLinecfg, .actOpts, .actGraceTicks, .actWindow, .candIdx, .scanTotal, .scanValid,
   .foundBaud, .foundLinecfg, .reserved48, .reserved4C, .recHdr, .recF0, .recF1, .recLen, .recTsLo, .recTsHi,
   .recData]

/-- The registers of the record window (R27). -/
def windowRegs : List Reg := [.recHdr, .recF0, .recF1, .recLen, .recTsLo, .recTsHi, .recData]

end Sys2Proof.Statement

section

open Sys2Proof Sys2Proof.Machine Sys2Proof.Statement

/-! Encoding and the step. -/

/-- Words written out from R61, R70, R72 and R46 decode to the operations they stand for: the frames of vectors V30, V31,
V47, V51, V52, V55, V56 and V59b, the command codes 1 to 6 and 7, a write of `BAUD` and a read of `REC_DATA`. -/
def Obligations.WrittenOutWordsDecode : Prop :=
  decode (.frame ⟨[0x01, 0x03, 0x00, 0x00, 0x00, 0x01, 0x84, 0x0A], 9, true⟩)
      = .ok (.rd03Req ⟨9, true, 0x01, 0x84, 0x0A⟩ [0x00, 0x00, 0x00, 0x01])
  ∧ decode (.frame ⟨[0x01, 0x03, 0x02, 0x00, 0x0A, 0x38, 0x43], 9, false⟩)
      = .ok (.rd03Rsp ⟨9, false, 0x01, 0x38, 0x43⟩ [0x02, 0x00, 0x0A])
  ∧ decode (.frame ⟨[0x01, 0x05, 0x00, 0xAC, 0xFF, 0x00, 0x4C, 0x1B], 0, false⟩)
      = .ok (.ws05 ⟨0, false, 0x01, 0x4C, 0x1B⟩ [0x00, 0xAC, 0xFF, 0x00])
  ∧ decode (.frame ⟨[0x01, 0x0F, 0x00, 0x13, 0x00, 0x0A, 0x02, 0xCD, 0x01, 0x72, 0xCB], 0, false⟩)
      = .ok (.wm0fReq ⟨0, false, 0x01, 0x72, 0xCB⟩ [0x00, 0x13, 0x00, 0x0A, 0x02, 0xCD, 0x01])
  ∧ decode (.frame ⟨[0x01, 0x0F, 0x00, 0x13, 0x00, 0x0A, 0x24, 0x09], 0, false⟩)
      = .ok (.wm0fRsp ⟨0, false, 0x01, 0x24, 0x09⟩ [0x00, 0x13, 0x00, 0x0A])
  ∧ decode (.frame ⟨[0x01, 0x10, 0x00, 0x01, 0xC1, 0xDD], 0, false⟩)
      = .ok (.wm10Unk ⟨0, false, 0x01, 0xC1, 0xDD⟩ [0x00, 0x01])
  ∧ decode (.frame ⟨[0x01, 0x83, 0x02, 0xC0, 0xF1], 0, false⟩)
      = .ok (.exc ⟨0, false, 0x01, 0xC0, 0xF1⟩ 0x03 [0x02])
  ∧ decode (.frame ⟨[0x01, 0x2B, 0x0E, 0x01, 0x00, 0x70, 0x77], 0, false⟩)
      = .ok (.other ⟨0, false, 0x01, 0x70, 0x77⟩ 0x2B [0x0E, 0x01, 0x00])
  ∧ (List.range 8).map (fun k => decode (.input (.write 5 0x00 32 (BitVec.ofNat 32 k))))
      = [.ok (.cmdIllegal 5 0), .ok (.openCmd 5), .ok (.closeCmd 5), .ok (.scanStart 5), .ok (.scanCancel 5),
         .ok (.recPop 5), .ok (.softReset 5), .ok (.cmdIllegal 5 7)]
  ∧ decode (.input (.write 5 0x0C 32 0x2580)) = .ok (.wr 5 .baud 0x2580)
  ∧ decode (.input (.read 5 0x68 32)) = .ok (.rd 5 .recData)

/-- Every well-formed operation is what its encoding decodes to, with every operand at every value. -/
def Obligations.DecodeOfEncodeIsTheInstruction : Prop :=
  ∀ i : Instr, wellFormed i = true → decode (encode i) = .ok i

/-- What decodes is well-formed and encodes back to the code it came from: every code has one meaning and no bit of it is
dropped. -/
def Obligations.EncodeOfDecodeIsTheCode : Prop :=
  ∀ (c : Code) (i : Instr), decode c = .ok i → wellFormed i = true ∧ encode i = c

/-- The map of R70: a frame of 4 bytes or more decodes, whatever its bytes, to the opcode its function byte selects, the
exception bit first, and inside a family to the form its payload selects (R62, R64); fewer than 4 bytes are no frame. -/
def Obligations.FrameOpcodeSelection : Prop :=
  (∀ (h : FrameHead) (fn : Byte) (p : List Byte),
    ∃ i, decode (.frame ⟨frameBytes h fn p, h.ts, h.inGrace⟩) = .ok i
      ∧ (fn.getLsbD 7 = true → i = .exc h (fn.setWidth 7) p)
      ∧ (fn = 0x01 → (ReadResponse p → i = .rd01Rsp h p) ∧ (¬ ReadResponse p → i = .rd01Req h p))
      ∧ (fn = 0x02 → (ReadResponse p → i = .rd02Rsp h p) ∧ (¬ ReadResponse p → i = .rd02Req h p))
      ∧ (fn = 0x03 → (ReadResponse p → i = .rd03Rsp h p) ∧ (¬ ReadResponse p → i = .rd03Req h p))
      ∧ (fn = 0x04 → (ReadResponse p → i = .rd04Rsp h p) ∧ (¬ ReadResponse p → i = .rd04Req h p))
      ∧ (fn = 0x05 → i = .ws05 h p)
      ∧ (fn = 0x06 → i = .ws06 h p)
      ∧ (fn = 0x0F → (p.length = 4 → i = .wm0fRsp h p) ∧ (5 ≤ p.length → i = .wm0fReq h p)
          ∧ (p.length ≤ 3 → i = .wm0fUnk h p))
      ∧ (fn = 0x10 → (p.length = 4 → i = .wm10Rsp h p) ∧ (5 ≤ p.length → i = .wm10Req h p)
          ∧ (p.length ≤ 3 → i = .wm10Unk h p))
      ∧ (fn.getLsbD 7 = false → fn.toNat ∉ [0x01, 0x02, 0x03, 0x04, 0x05, 0x06, 0x0F, 0x10] →
          i = .other h (fn.setWidth 7) p))
  ∧ (∀ cf : CandidateFrame, cf.bytes.length < 4 → decode (.frame cf) = .error (.shortFrame cf.bytes.length))

/-- When the input that arrives next is not before `TIME` and decodes to an operation, the step is that operation, in the
state without the input and with `TIME` at the input's timestamp. -/
def Obligations.StepRunsTheArrivedOperation : Prop :=
  ∀ (s : State) (x : Input) (rest : List Input) (i : Instr),
    s.inputs = x :: rest → decode (.input x) = .ok i →
    (∀ t, inputStamp x = some t → s.time.toNat ≤ t.toNat) →
    step s = exec i { s with inputs := rest, time := (inputStamp x).getD s.time }

/-- With no input to arrive the step is `DECODE_STEP` while CFQ is not empty, else one tick of `TIME` (the model's choice
of schedule: assumption 2). -/
def Obligations.StepWithoutInputsDecodesOrWaits : Prop :=
  ∀ s : State, s.inputs = [] →
    (s.cfq ≠ [] → step s = exec .decodeStep s)
    ∧ (s.cfq = [] → s.time.toNat + 1 < 2 ^ 64 → step s = .next { s with time := s.time + 1 })

/-- Timestamps do not decrease: an event before `TIME` has no step, one at or after `TIME` (the same timestamp
included) is not refused for its time and leaves `TIME` at its timestamp (R8). -/
def Obligations.TimestampsDoNotDecrease : Prop :=
  ∀ (s : State) (x : Input) (rest : List Input) (t : Stamp),
    s.inputs = x :: rest → inputStamp x = some t →
    (t.toNat < s.time.toNat → step s = .refused .clockRunsBack)
    ∧ (s.time.toNat ≤ t.toNat → step s ≠ .refused .clockRunsBack ∧ ∀ s', step s = .next s' → s'.time = t)

/-- Host accesses (R47): an access of another width or alignment, or at 0x6C or above, has no step; a read of a reserved
offset returns 0; a write to a reserved or read-only offset changes nothing. -/
def Obligations.RegisterAccessRules : Prop :=
  (∀ (s : State) (t : Stamp) (off bits : Nat) (v : Word) (rest : List Input),
    s.time.toNat ≤ t.toNat → (bits ≠ 32 ∨ off % 4 ≠ 0 ∨ 0x6C ≤ off) →
    (s.inputs = .write t off bits v :: rest → ∃ e, step s = .refused (.undefinedAccess e))
    ∧ (s.inputs = .read t off bits :: rest → ∃ e, step s = .refused (.undefinedAccess e)))
  ∧ (∀ (s : State) (t : Stamp) (off : Nat), off = 0x48 ∨ off = 0x4C →
    ∃ r, decode (.input (.read t off 32)) = .ok (.rd t r) ∧ exec (.rd t r) s = .next { s with rdata := 0 })
  ∧ (∀ (s : State) (t : Stamp) (v : Word), ∀ r ∈ readOnlyRegs, exec (.wr t r v) s = .next s)

/-! The Reassembler. -/

/-- A byte the Reassembler gets, with no boundary before it: it is appended and `T_PREV` is its timestamp, nothing else
changes. -/
def Obligations.ByteWithoutBoundaryIsAppended : Prop :=
  ∀ (s : State) (t : Stamp) (b : Byte),
    Reassembled s t → NoBoundary s t → Room s s.buf.length →
    exec (.rxbyte t b) s = .next { s with buf := s.buf ++ [b], tPrev := t }

/-- `RXBYTE` in CAPTURE after a frame gap: the buffered bytes are delivered as one Segment that ends at the old `T_PREV`,
and the arriving byte is the first of the new buffer; nothing else changes. -/
def Obligations.CaptureFrameGapDeliversTheSegment : Prop :=
  ∀ (s : State) (t : Stamp) (b : Byte),
    s.mode = .capture → s.buf ≠ [] → FrameGap s (gap s t) → Room s 0 →
    exec (.rxbyte t b) s =
      .next { s with buf := [b], tPrev := t, cfq := (delivered s).1, flags := (delivered s).2 }

/-- A byte the Reassembler gets after a discard gap, with the discard mode on: the buffered bytes are thrown away silently
and the arriving byte starts a new buffer (R85); the gap test is R82's, upper end exclusive. -/
def Obligations.DiscardGapClearsTheBuffer : Prop :=
  ∀ (s : State) (t : Stamp) (b : Byte),
    Reassembled s t → s.buf ≠ [] → s.actDiscard = true → DiscardGap s (gap s t) → ¬ FrameGap s (gap s t) →
    Room s 0 →
    exec (.rxbyte t b) s = .next { s with buf := [b], tPrev := t }

/-- A byte the Reassembler gets while BUF is full after the boundary handling: it is not stored, `F_BUF_OVF` is set and
`T_PREV` is its timestamp all the same (R90). -/
def Obligations.FullBufferDropsTheArrivingByte : Prop :=
  ∀ (s : State) (t : Stamp) (b : Byte) (k : Nat),
    Reassembled s t → NoBoundary s t → s.cfg.bufCap = some k → s.buf.length = k →
    exec (.rxbyte t b) s = .next { s with flags := s.flags ||| 0x20#32, tPrev := t }

/-- R93 for a session's bytes, with the discard mode off and BUF large enough for them, as an unbounded one is: while
every gap is below the threshold no Segment is cut and the bytes gather in BUF; the first byte after a gap at or above
it cuts exactly one Segment, of all N bytes, which becomes a CandidateFrame if N ≥ 4 and is discarded if N < 4. -/
def Obligations.OneGapCutsExactlyOneSegment : Prop :=
  ∀ (s : State) (t₀ : Stamp) (b₀ : Byte) (bytes : List (Stamp × Byte)) (t : Stamp) (b : Byte),
    s.mode = .capture → s.actDiscard = false → Room s bytes.length → s.buf = [] →
    Close s t₀ bytes →
    let all := b₀ :: bytes.map Prod.snd
    let last := (bytes.getLast?.map Prod.fst).getD t₀
    let s₁ := { s with buf := all, tPrev := last }
    receive ((t₀, b₀) :: bytes) s = .next s₁
    ∧ (FrameGap s (t.toNat - last.toNat) →
        (all.length < 4 → exec (.rxbyte t b) s₁
          = .next { s₁ with buf := [b], tPrev := t, flags := s.flags ||| 0x04#32 })
        ∧ (4 ≤ all.length → s.cfg.cfqDepth ≠ some s.cfq.length → ∃ g, exec (.rxbyte t b) s₁
          = .next { s₁ with buf := [b], tPrev := t, cfq := s.cfq ++ [⟨all, last, g⟩] }))

/-- `RXEND` in CAPTURE: the tail is flushed, the session ends and `F_SRC_TERM` is set; no action is emitted (R89). -/
def Obligations.CaptureSourceEndFlushesTheTail : Prop :=
  ∀ (s : State) (t : Stamp), s.mode = .capture →
    exec (.rxend t) s =
      .next { s with
        buf := [], cfq := (flushed s).1, flags := (flushed s).2 ||| 0x01#32, lineOpen := false, mode := .idle }

/-- `RXBYTE` and `RXEND` in IDLE change nothing (R91); `TICK` changes nothing in CAPTURE or IDLE: the Reassembler has no
timeout (R92). -/
def Obligations.IdleLineAndTickChangeNothing : Prop :=
  (∀ (s : State) (t : Stamp) (b : Byte), s.mode = .idle →
    exec (.rxbyte t b) s = .next s ∧ exec (.rxend t) s = .next s)
  ∧ (∀ (s : State) (t : Stamp), s.mode = .capture ∨ s.mode = .idle → exec (.tick t) s = .next s)

/-! The CRC validator. -/

/-- The CRC (R101): from `0xFFFF`, each byte XORed into bits 7:0 and then 8 steps, in arrival order; the example of R101. Its
transmission (R102): the low byte, then the high byte; the document's reference vector. -/
def Obligations.CrcAlgorithmAndTransmission : Prop :=
  crc16 [] = 0xFFFF
  ∧ (∀ (m : List Byte) (b : Byte), crc16 (m ++ [b]) =
      crcBit (crcBit (crcBit (crcBit (crcBit (crcBit (crcBit (crcBit (crc16 m ^^^ b.setWidth 16)))))))))
  ∧ crc16 [0x01] = 0x807E ∧ crc16 [0x01, 0x03, 0x00, 0x00, 0x00, 0x0A] = 0xCDC5
  ∧ (∀ m : List Byte, ∃ lo hi : Byte, withCrc m = m ++ [lo, hi] ∧ lo = (crc16 m).extractLsb' 0 8
      ∧ hi = (crc16 m).extractLsb' 8 8)
  ∧ withCrc [0x01, 0x03, 0x00, 0x00, 0x00, 0x0A] = [0x01, 0x03, 0x00, 0x00, 0x00, 0x0A, 0xC5, 0xCD]

/-- A message followed by its own CRC has CRC 0 (R105, general knowledge in the spec's own words). -/
def Obligations.CrcOfMessageWithItsCrcIsZero : Prop :=
  ∀ m : List Byte, crc16 (withCrc m) = 0

/-- Round trip (R104): when `DECODE_STEP` pushes a record whose `crcValid` is 1, recomputing the CRC from the record's
address, function and payload gives its received CRC bytes. -/
def Obligations.ValidRecordReproducesItsCrc : Prop :=
  ∀ (s s' : State) (d : DecodedFrame),
    exec .decodeStep s = .next s' → s'.dfq = s.dfq ++ [d] → d.crcValid = true →
    d.crcLo = (crc16 ([d.address, d.function] ++ d.payload)).extractLsb' 0 8
    ∧ d.crcHi = (crc16 ([d.address, d.function] ++ d.payload)).extractLsb' 8 8

/-! The Decoder. -/

/-- RD01 to RD04 (R114). Response form: class RESPONSE, `count` the declared byte count, data from payload byte 1, exactly as
many bytes as declared. Request form: class REQUEST, `firstReg` and `count` big-endian where their bytes are present, data
from payload byte 4. -/
def Obligations.ReadRecord : Prop :=
  ∀ (s : State) (h : FrameHead) (p : List Byte),
    (∀ n rest, p = n :: rest → p.length = 1 + n.toNat →
      ∀ fi ∈ [((0x01 : Byte), Instr.rd01Rsp h p), (0x02, .rd02Rsp h p), (0x03, .rd03Rsp h p), (0x04, .rd04Rsp h p)],
        exec fi.2 s = .next (staged h.inGrace
          { common h fi.1 p .response with count := some (n.setWidth 16), dataOff := 1 } s)
        ∧ (p.drop 1).length = n.toNat)
    ∧ (¬ ReadResponse p →
      ∃ first count, Opt16 p 0 first ∧ Opt16 p 2 count ∧
        ∀ fi ∈ [((0x01 : Byte), Instr.rd01Req h p), (0x02, .rd02Req h p), (0x03, .rd03Req h p), (0x04, .rd04Req h p)],
          exec fi.2 s = .next (staged h.inGrace
            { common h fi.1 p .request with firstReg := first, count := count, dataOff := min 4 p.length } s))

/-- WS05 and WS06 (R119, R120): class DEFERRED whatever the payload, `firstReg` big-endian, data from payload byte 2. -/
def Obligations.WriteSingleRecord : Prop :=
  ∀ (s : State) (h : FrameHead) (p : List Byte),
    ∃ first, Opt16 p 0 first ∧
      ∀ fi ∈ [((0x05 : Byte), Instr.ws05 h p), (0x06, .ws06 h p)],
        exec fi.2 s = .next (staged h.inGrace
          { common h fi.1 p .deferred with firstReg := first, dataOff := min 2 p.length } s)

/-- WM0F and WM10 (R121, R122) in their three forms. -/
def Obligations.WriteMultipleRecord : Prop :=
  ∀ (s : State) (h : FrameHead) (p : List Byte),
    (p.length = 4 → ∃ first count, Be16 p 0 first ∧ Be16 p 2 count ∧
      ∀ fi ∈ [((0x0F : Byte), Instr.wm0fRsp h p), (0x10, .wm10Rsp h p)],
        exec fi.2 s = .next (staged h.inGrace
          { common h fi.1 p .response with firstReg := some first, count := some count, dataOff := 4 } s))
    ∧ (5 ≤ p.length → ∃ first count bcf, Be16 p 0 first ∧ Be16 p 2 count ∧ p[4]? = some bcf ∧
      ∀ fi ∈ [((0x0F : Byte), Instr.wm0fReq h p), (0x10, .wm10Req h p)],
        exec fi.2 s = .next (staged h.inGrace
          { common h fi.1 p .request with
            firstReg := some first, count := some count, bcf := some bcf, dataOff := 5 } s))
    ∧ (p.length ≤ 3 →
      ∀ fi ∈ [((0x0F : Byte), Instr.wm0fUnk h p), (0x10, .wm10Unk h p)],
        exec fi.2 s = .next (staged h.inGrace (common h fi.1 p .unknown) s))

/-- EXC (R123): class RESPONSE, `errorCode` the first payload byte if there is one, data from payload byte 1. -/
def Obligations.ExceptionRecord : Prop :=
  ∀ (s : State) (h : FrameHead) (base : BitVec 7) (p : List Byte),
    exec (.exc h base p) s = .next (staged h.inGrace
      { common h (0x80#8 ||| base.setWidth 8) p .response with
        errorCode := p.head?, dataOff := min 1 p.length } s)

/-- OTHER (R124): class UNKNOWN, every optional field NA, data the whole payload. -/
def Obligations.OtherRecord : Prop :=
  ∀ (s : State) (h : FrameHead) (base : BitVec 7) (p : List Byte),
    base.toNat ∉ [0x01, 0x02, 0x03, 0x04, 0x05, 0x06, 0x0F, 0x10] →
    exec (.other h base p) s = .next (staged h.inGrace (common h (base.setWidth 8) p .unknown) s)

/-- `DECODE_STEP` is the pop of CFQ's head followed by the frame opcode the head decodes to: no layout differs between
the dispatch of R113 and the opcode's own meaning. -/
def Obligations.DecodeStepRunsTheFrameOpcode : Prop :=
  ∀ (s : State) (cf : CandidateFrame) (rest : List CandidateFrame) (i : Instr),
    s.cfq = cf :: rest → decode (.frame cf) = .ok i →
    exec .decodeStep s = exec i { s with cfq := rest }

/-- `DECODE_STEP` in every mode (R189): enabled exactly while CFQ is not empty; the head is consumed whatever becomes of
it, a filtered or dropped frame included, and nothing but CFQ, DFQ and `F_DFQ_DROP` changes. -/
def Obligations.DecodeStepConsumesTheHead : Prop :=
  ∀ s : State,
    (s.cfq = [] → exec .decodeStep s = .refused .decodeNotEnabled)
    ∧ (∀ cf rest, s.cfq = cf :: rest → 4 ≤ cf.bytes.length →
      ∃ d, d.ts = cf.ts ∧ frameBytes ⟨d.ts, cf.inGrace, d.address, d.crcLo, d.crcHi⟩ d.function d.payload = cf.bytes
        ∧ exec .decodeStep s = .next (staged cf.inGrace d { s with cfq := rest }))

/-- DFQ full (R191): the frame just decoded, unless the grace filter takes it, is discarded, `F_DFQ_DROP` is set, the
frames in DFQ are kept in order and CFQ's head has been consumed. -/
def Obligations.FullDfqDropsTheNewestFrame : Prop :=
  ∀ (s : State) (ts : Stamp) (g : Bool) (h : FrameHead) (fn : Byte) (p : List Byte) (rest : List CandidateFrame),
    s.cfq = ⟨frameBytes h fn p, ts, g⟩ :: rest → (g = false ∨ crcOk h fn p = true) →
    s.dfq.length = s.cfg.dfqDepth →
    exec .decodeStep s = .next { s with cfq := rest, flags := s.flags ||| 0x08#32 }

/-- Grace filter (R190): a frame cut inside the grace window is discarded when its CRC is invalid, with no flag, also when
DFQ is full; with a valid CRC it is pushed normally. -/
def Obligations.GraceFilterDropsOnlyInvalidFrames : Prop :=
  ∀ (s : State) (ts : Stamp) (h : FrameHead) (fn : Byte) (p : List Byte) (rest : List CandidateFrame),
    s.cfq = ⟨frameBytes h fn p, ts, true⟩ :: rest →
    (crcOk h fn p = false → exec .decodeStep s = .next { s with cfq := rest })
    ∧ (crcOk h fn p = true → s.dfq.length ≠ s.cfg.dfqDepth →
      ∃ d, d.crcValid = true ∧ exec .decodeStep s = .next { s with cfq := rest, dfq := s.dfq ++ [d] })

/-- Purity (R125): `Decode` depends on the bytes of its one frame only. Two CandidateFrames with equal bytes, decoded in
whatever states, give DecodedFrames equal in every field except `ts`. -/
def Obligations.DecodeDependsOnTheBytesOnly : Prop :=
  ∀ (s₁ s₂ : State) (bytes : List Byte) (ts₁ ts₂ : Stamp) (rest₁ rest₂ : List CandidateFrame),
    4 ≤ bytes.length →
    s₁.cfq = ⟨bytes, ts₁, false⟩ :: rest₁ → s₁.dfq.length ≠ s₁.cfg.dfqDepth →
    s₂.cfq = ⟨bytes, ts₂, false⟩ :: rest₂ → s₂.dfq.length ≠ s₂.cfg.dfqDepth →
    ∃ d : DecodedFrame,
      exec .decodeStep s₁ = .next { s₁ with cfq := rest₁, dfq := s₁.dfq ++ [{ d with ts := ts₁ }] }
      ∧ exec .decodeStep s₂ = .next { s₂ with cfq := rest₂, dfq := s₂.dfq ++ [{ d with ts := ts₂ }] }

/-- A frame is decoded by the same rules whether its CRC is right or wrong (R128): with the trailer changed, class and
every other field stay, only the received CRC bytes and `crcValid` follow. -/
def Obligations.WrongCrcIsDecodedAlike : Prop :=
  ∀ (s : State) (a fn lo hi lo' hi' : Byte) (p : List Byte) (ts : Stamp) (rest : List CandidateFrame),
    s.dfq.length ≠ s.cfg.dfqDepth →
    ∃ (d : DecodedFrame) (v v' : Bool),
      exec .decodeStep { s with cfq := ⟨[a, fn] ++ p ++ [lo, hi], ts, false⟩ :: rest }
        = .next { s with cfq := rest, dfq := s.dfq ++ [{ d with crcLo := lo, crcHi := hi, crcValid := v }] }
      ∧ exec .decodeStep { s with cfq := ⟨[a, fn] ++ p ++ [lo', hi'], ts, false⟩ :: rest }
        = .next { s with cfq := rest, dfq := s.dfq ++ [{ d with crcLo := lo', crcHi := hi', crcValid := v' }] }

/-! The scanner. -/

/-- `SCAN_START` (R163, with R164, R166): refused outside IDLE or with `SCAN_WINDOW = 0`; else it latches the window and
the discard option and opens candidate 0, or ends the scan EXHAUSTED at once when there is none. -/
def Obligations.ScanStartOpensTheFirstCandidate : Prop :=
  ∀ (s : State) (t : Stamp),
    let s₀ := { s with
      mode := .scan, candIdx := 0, cancelReq := false, scanOutcome := .none, actWindow := s.scanWindow
      actDiscard := s.opts.getLsbD 0, actGraceEn := false }
    ((s.mode ≠ .idle ∨ s.scanWindow = 0) →
      exec (.scanStart t) s = .next { s with flags := s.flags ||| 0x40#32 })
    ∧ (s.mode = .idle → s.scanWindow ≠ 0 → ∀ c cs, s.cfg.scanCands = c :: cs →
      exec (.scanStart t) s = .next (opened t c s₀))
    ∧ (s.mode = .idle → s.scanWindow ≠ 0 → s.cfg.scanCands = [] →
      exec (.scanStart t) s = .next (finished .exhausted s₀))

/-- A byte inside the window of a candidate after a frame gap: the Segment is counted, and counted as valid when its CRC
is, or discarded with `F_SHORT` uncounted when it has fewer than 4 bytes; the queues are not touched (R169, R86). A
`TICK` inside the window does nothing (R167). -/
def Obligations.ScanFrameGapCountsTheSegment : Prop :=
  (∀ (s : State) (t : Stamp), s.mode = .scan → s.cancelReq = false →
    t.toNat - s.tOpen.toNat < s.actWindow.toNat → exec (.tick t) s = .next s)
  ∧ ∀ (s : State) (t : Stamp) (b : Byte),
    s.mode = .scan → s.cancelReq = false → t.toNat - s.tOpen.toNat < s.actWindow.toNat →
    s.buf ≠ [] → FrameGap s (gap s t) → Room s 0 →
    (s.buf.length < 4 →
      exec (.rxbyte t b) s = .next { s with buf := [b], tPrev := t, flags := s.flags ||| 0x04#32 })
    ∧ (∀ (h : FrameHead) (fn : Byte) (p : List Byte), s.buf = frameBytes h fn p →
      exec (.rxbyte t b) s = .next { s with
        buf := [b]
        tPrev := t
        scanTotal := s.scanTotal + 1
        scanValid := if crcOk h fn p then s.scanValid + 1 else s.scanValid })

/-- End of a candidate that passes the test (R171, R172, R174, R170): the line is closed, with `SRC_CLOSE` unless the
source ended by itself, BUF and an arriving byte are dropped, the outcome is ACCEPTED and `FOUND_*` the candidate's. -/
def Obligations.PassingCandidateIsAccepted : Prop :=
  ∀ (s : State) (t : Stamp), s.mode = .scan → s.cancelReq = false → Accepts s →
    let found := { s with foundBaud := s.actBaud, foundLinecfg := s.actLinecfg }
    (exec (.rxend t) s = .next (finished .accepted (observed false found)))
    ∧ (s.actWindow.toNat ≤ t.toNat - s.tOpen.toNat →
      exec (.tick t) s = .next (finished .accepted (observed true found))
      ∧ ∀ b, exec (.rxbyte t b) s = .next (finished .accepted (observed true found)))

/-- End of a candidate that fails the test (R171, R172, R164, R166): the line is closed first, then the next candidate is
opened in the same operation, or the scan ends EXHAUSTED after the last. That the opening keeps `ACT_DISCARD` as
`SCAN_START` latched it is the model's reading, assumption 9, against a sentence of R18. -/
def Obligations.FailingCandidateGivesWayToTheNext : Prop :=
  ∀ (s : State) (t : Stamp), s.mode = .scan → s.cancelReq = false → ¬ Accepts s →
    let after (emits : Bool) : State :=
      let s₁ := { observed emits s with candIdx := s.candIdx + 1 }
      match s.cfg.scanCands[s.candIdx + 1]? with
      | some c => opened t c s₁
      | none => finished .exhausted s₁
    (exec (.rxend t) s = .next (after false))
    ∧ (s.actWindow.toNat ≤ t.toNat - s.tOpen.toNat →
      exec (.tick t) s = .next (after true) ∧ ∀ b, exec (.rxbyte t b) s = .next (after true))

/-- `SCAN_CANCEL` (R173) in SCAN only sets the flag, elsewhere it is refused; a pending cancel is honoured by the next
scanner event of any kind before anything else: the line is closed and the scan ends CANCELLED, also when the window is over
and the test would pass. -/
def Obligations.CancelIsHonouredFirst : Prop :=
  ∀ (s : State) (t : Stamp),
    (s.mode = .scan → exec (.scanCancel t) s = .next { s with cancelReq := true })
    ∧ (s.mode ≠ .scan → exec (.scanCancel t) s = .next { s with flags := s.flags ||| 0x40#32 })
    ∧ (s.mode = .scan → s.cancelReq = true →
      exec (.rxend t) s = .next (finished .cancelled (observed false s))
      ∧ exec (.tick t) s = .next (finished .cancelled (observed true s))
      ∧ ∀ b, exec (.rxbyte t b) s = .next (finished .cancelled (observed true s)))

/-- R176's selection on a run: a scan that is neither cancelled nor reset, and in which exactly candidate `k` passes the
test whenever an observation ends, ends ACCEPTED with `CAND_IDX = k` and `FOUND_*` that candidate's. -/
def Obligations.ScanSelectsTheOnlyPassingCandidate : Prop :=
  ∀ (s : State) (scanning : List State) (last : State) (k : Nat),
    Invariant s → s.mode = .scan → s.candIdx ≤ k → k < s.cfg.scanCands.length →
    Run s (scanning ++ [last]) →
    (∀ u ∈ s :: scanning, u.mode = .scan ∧ u.cancelReq = false ∧ ¬ ResetNext u
      ∧ (EndsObservation u → (Accepts u ↔ u.candIdx = k))) →
    last.mode = .idle →
    last.scanOutcome = .accepted ∧ last.candIdx = k
    ∧ ∃ c, s.cfg.scanCands[k]? = some c ∧ last.foundBaud = c.baud ∧ last.foundLinecfg = linecfgOf c

/-- The scanner pushes nothing to CFQ or DFQ: no line event in SCAN changes a queue (R175). -/
def Obligations.ScanLeavesTheQueuesAlone : Prop :=
  ∀ (s : State) (t : Stamp) (b : Byte), s.mode = .scan →
    ∀ i ∈ [Instr.rxbyte t b, .rxend t, .tick t],
      ∃ s', exec i s = .next s' ∧ s'.cfq = s.cfq ∧ s'.dfq = s.dfq ∧ s'.baud = s.baud ∧ s'.linecfg = s.linecfg

/-! Host commands and the byte-source port. -/

/-- `OPEN` (R205): refused unless `MODE = IDLE`, `BAUD ≠ 0` and `PARITY ≠ 3`; else the configuration is latched, the
source configured and opened, `T_OPEN` set and `MODE` CAPTURE. -/
def Obligations.OpenLatchesAndOpens : Prop :=
  ∀ (s : State) (t : Stamp),
    ((s.mode ≠ .idle ∨ s.baud = 0 ∨ s.linecfg.extractLsb' 1 2 = 3#2) →
      exec (.openCmd t) s = .next { s with flags := s.flags ||| 0x40#32 })
    ∧ (s.mode = .idle → s.baud ≠ 0 → s.linecfg.extractLsb' 1 2 ≠ 3#2 →
      ∃ link : LinkConfig,
        link.baud = s.baud
        ∧ (link.dataBits = .eight ↔ s.linecfg.getLsbD 0 = true)
        ∧ (link.parity = .none ↔ s.linecfg.extractLsb' 1 2 = 0#2)
        ∧ (link.parity = .even ↔ s.linecfg.extractLsb' 1 2 = 1#2)
        ∧ (link.parity = .odd ↔ s.linecfg.extractLsb' 1 2 = 2#2)
        ∧ (link.stopBits = .two ↔ s.linecfg.getLsbD 3 = true)
        ∧ exec (.openCmd t) s = .next { s with
            actBaud := s.baud
            actLinecfg := s.linecfg
            actDiscard := s.opts.getLsbD 0
            actGraceEn := s.opts.getLsbD 1
            actGraceTicks := s.graceTicks
            actions := s.actions ++ [.configure link, .openSource]
            lineOpen := true
            tOpen := t
            mode := .capture })

/-- `CLOSE` (R206): refused unless `MODE = CAPTURE`; else the tail is flushed, `SRC_CLOSE` emitted, `MODE` IDLE;
`F_SRC_TERM` is not set. -/
def Obligations.CloseFlushesAndCloses : Prop :=
  ∀ (s : State) (t : Stamp),
    (s.mode ≠ .capture → exec (.closeCmd t) s = .next { s with flags := s.flags ||| 0x40#32 })
    ∧ (s.mode = .capture → exec (.closeCmd t) s = .next { s with
        buf := [], cfq := (flushed s).1, flags := (flushed s).2, actions := s.actions ++ [.closeSource]
        lineOpen := false, mode := .idle })

/-- `REC_POP` (R207): refused while DFQ is empty, else the head is removed and `REC_CUR` is 0, in every mode. -/
def Obligations.RecPopRemovesTheHead : Prop :=
  ∀ (s : State) (t : Stamp),
    (s.dfq = [] → exec (.recPop t) s = .next { s with flags := s.flags ||| 0x40#32 })
    ∧ (∀ d rest, s.dfq = d :: rest → exec (.recPop t) s = .next { s with dfq := rest, recCur := 0 })

/-- Reset (R250, R212, R252, with the values of R30): the reset input and `SOFT_RESET` put every state element at its
reset value and keep `TIME`, and so stands the block at first; `SOFT_RESET` emits `SRC_CLOSE` first if a line is open, the
reset input emits nothing. -/
def Obligations.ResetPutsEveryElementAtItsValue : Prop :=
  (∀ (s : State) (t : Stamp), ∃ s', exec (.softReset t) s = .next s'
    ∧ AfterReset s (s.actions ++ (if s.lineOpen then [SrcAction.closeSource] else [])) s')
  ∧ (∀ (s : State) (rest : List Input), s.inputs = .hardReset :: rest →
    ∃ s', step s = .next s' ∧ AfterReset { s with inputs := rest } s.actions s')
  ∧ (∀ cfg : Config, (State.resetWith cfg).cfg = cfg ∧ AfterReset (State.resetWith cfg) [] (State.resetWith cfg))

/-- `refuse` (R226, over the table of R213): each command that is not acceptable in the present state sets
`F_CMD_REFUSED` and changes nothing else, and so does every `CMD` value outside 1 to 6. -/
def Obligations.RefusedCommandsSetOnlyTheFlag : Prop :=
  ∀ (s : State) (t : Stamp) (v : Word),
    let refused := Host.Outcome.next (φ := Fault) (ρ := Refusal) { s with flags := s.flags ||| 0x40#32 }
    (s.mode ≠ .idle ∨ s.baud = 0 ∨ s.linecfg.extractLsb' 1 2 = 3#2 → exec (.openCmd t) s = refused)
    ∧ (s.mode ≠ .capture → exec (.closeCmd t) s = refused)
    ∧ (s.mode ≠ .idle ∨ s.scanWindow = 0 → exec (.scanStart t) s = refused)
    ∧ (s.mode ≠ .scan → exec (.scanCancel t) s = refused)
    ∧ (s.dfq = [] → exec (.recPop t) s = refused)
    ∧ (v.toNat ∉ [1, 2, 3, 4, 5, 6] → exec (.cmdIllegal t v) s = refused)

/-- `CMD` codes (R72, R26): a write of `k` to `CMD` that arrives is the command with code `k`, all 32 bits compared, at the
time of the write; every other value, 0 included, is refused. -/
def Obligations.WritingCmdRunsTheCommand : Prop :=
  ∀ (s : State) (t : Stamp) (k : Word) (rest : List Input),
    s.inputs = .write t 0x00 32 k :: rest → s.time.toNat ≤ t.toNat →
    let s₁ := { s with inputs := rest, time := t }
    step s =
      (if k = 1 then exec (.openCmd t) s₁
       else if k = 2 then exec (.closeCmd t) s₁
       else if k = 3 then exec (.scanStart t) s₁
       else if k = 4 then exec (.scanCancel t) s₁
       else if k = 5 then exec (.recPop t) s₁
       else if k = 6 then exec (.softReset t) s₁
       else .next { s₁ with flags := s.flags ||| 0x40#32 })

/-- The output actions (R201 to R204): `SRC_CONFIGURE` changes nothing but what has been emitted, `SRC_OPEN` sets and
`SRC_CLOSE` clears `LINE_OPEN`, `SRC_DISCARD` is emitted with the line open; none where the block does not emit it. -/
def Obligations.SourceActionsAndTheHandle : Prop :=
  ∀ (s : State) (c : LinkConfig),
    (s.lineOpen = false →
      exec (.srcConfigure c) s = .next { s with actions := s.actions ++ [.configure c] }
      ∧ exec .srcOpen s = .next { s with actions := s.actions ++ [.openSource], lineOpen := true }
      ∧ (∃ r, exec .srcClose s = .refused r) ∧ (∃ r, exec .srcDiscard s = .refused r))
    ∧ (s.lineOpen = true →
      exec .srcClose s = .next { s with actions := s.actions ++ [.closeSource], lineOpen := false }
      ∧ exec .srcDiscard s = .next { s with actions := s.actions ++ [.discard] }
      ∧ (∃ r, exec (.srcConfigure c) s = .refused r) ∧ (∃ r, exec .srcOpen s = .refused r))

/-- The byte-source protocol along every step (R175, R202, R203): what a step emits is legal from the handle as the step
finds it and leaves the handle as `LINE_OPEN` says; in particular no `SRC_OPEN` while a handle is open. -/
def Obligations.NeverMoreThanOneHandle : Prop :=
  ∀ s s' : State, Invariant s → step s = .next s' →
    ∃ emitted, s'.actions = s.actions ++ emitted ∧ runActions (handleBefore s) emitted = some s'.lineOpen

/-! The host registers. -/

/-- `WR` (R208), in every mode: a configuration register takes the value with the bits that read 0 forced to 0, `FLAGS` is
write-1-to-clear, `CMD` runs the command with the code written, a read-only or reserved register ignores the write; nothing
else changes. -/
def Obligations.RegisterWrites : Prop :=
  ∀ (s : State) (t : Stamp) (v : Word),
    exec (.wr t .baud v) s = .next { s with baud := v }
    ∧ exec (.wr t .linecfg v) s = .next { s with linecfg := (v.extractLsb' 0 4).setWidth 32 }
    ∧ exec (.wr t .opts v) s = .next { s with opts := (v.extractLsb' 0 2).setWidth 32 }
    ∧ exec (.wr t .graceTicks v) s = .next { s with graceTicks := v }
    ∧ exec (.wr t .scanWindow v) s = .next { s with scanWindow := v }
    ∧ exec (.wr t .flags v) s = .next { s with flags := s.flags &&& ~~~v }
    ∧ (∀ i, decode (.input (.write t 0x00 32 v)) = .ok i → exec (.wr t .cmd v) s = exec i s)
    ∧ (∀ r ∈ readOnlyRegs, exec (.wr t r v) s = .next s)

/-- `RD` of every register but `REC_DATA` changes nothing (R209, R45). The value returned is given here for `CMD`, `FLAGS`,
the two reserved offsets, and the configuration, latched, counter and `FOUND` registers; for `STATUS` it is given by
StatusAndFlagsLayout, for the record window by RecordHeaderLayout and RecordLengthAndTimeLayout. -/
def Obligations.RegisterReadsChangeNothing : Prop :=
  ∀ (s : State) (t : Stamp) (r : Reg), r ≠ .recData →
    ∃ v, exec (.rd t r) s = .next { s with rdata := v }
      ∧ (r = .cmd ∨ r = .reserved48 ∨ r = .reserved4C → v = 0)
      ∧ (r = .flags → v.extractLsb' 0 7 = s.flags.extractLsb' 0 7 ∧ v.extractLsb' 7 25 = 0)
      ∧ (r = .baud → v = s.baud) ∧ (r = .graceTicks → v = s.graceTicks)
      ∧ (r = .scanWindow → v = s.scanWindow) ∧ (r = .actBaud → v = s.actBaud)
      ∧ (r = .actGraceTicks → v = s.actGraceTicks) ∧ (r = .actWindow → v = s.actWindow)
      ∧ (r = .foundBaud → v = s.foundBaud)
      ∧ (r = .linecfg → v = (s.linecfg.extractLsb' 0 4).setWidth 32)
      ∧ (r = .actLinecfg → v = (s.actLinecfg.extractLsb' 0 4).setWidth 32)
      ∧ (r = .foundLinecfg → v = (s.foundLinecfg.extractLsb' 0 4).setWidth 32)
      ∧ (r = .opts → v = (s.opts.extractLsb' 0 2).setWidth 32)
      ∧ (r = .actOpts → v.getLsbD 0 = s.actDiscard ∧ v.getLsbD 1 = s.actGraceEn ∧ v.extractLsb' 2 30 = 0)
      ∧ (r = .candIdx → s.candIdx < 2 ^ 32 → v.toNat = s.candIdx)
      ∧ (r = .scanTotal → s.scanTotal < 2 ^ 32 → v.toNat = s.scanTotal)
      ∧ (r = .scanValid → s.scanValid < 2 ^ 32 → v.toNat = s.scanValid)

/-- The streaming port (R27): `REC_DATA` returns the payload byte at `REC_CUR` and advances the cursor, or returns 0 and
leaves it alone at the payload's end; while DFQ is empty every window register reads 0 and nothing changes. -/
def Obligations.RecordWindowStreamsThePayload : Prop :=
  (∀ (s : State) (t : Stamp) (d : DecodedFrame) (rest : List DecodedFrame), s.dfq = d :: rest →
    (∀ b, d.payload[s.recCur]? = some b →
      exec (.rd t .recData) s = .next { s with rdata := b.setWidth 32, recCur := s.recCur + 1 })
    ∧ (d.payload.length ≤ s.recCur → exec (.rd t .recData) s = .next { s with rdata := 0 }))
  ∧ (∀ (s : State) (t : Stamp), s.dfq = [] → ∀ r ∈ windowRegs, exec (.rd t r) s = .next { s with rdata := 0 })

/-- `STATUS` (R25), a read-only view without state of its own, and `FLAGS` as read, bit by bit (R73). -/
def Obligations.StatusAndFlagsLayout : Prop :=
  ∀ (s : State) (t : Stamp),
    (∃ v, exec (.rd t .status) s = .next { s with rdata := v }
      ∧ v.extractLsb' 0 2 = (match s.mode with | .idle => 0#2 | .capture => 1#2 | .scan => 2#2)
      ∧ v.getLsbD 2 = s.lineOpen
      ∧ (v.getLsbD 3 = true ↔ 0 < s.buf.length)
      ∧ (v.getLsbD 4 = true ↔ 0 < s.cfq.length)
      ∧ (v.getLsbD 5 = true ↔ 0 < s.dfq.length)
      ∧ v.extractLsb' 6 2 = (match s.scanOutcome with
          | .none => 0#2 | .accepted => 1#2 | .exhausted => 2#2 | .cancelled => 3#2)
      ∧ v.getLsbD 8 = s.cancelReq
      ∧ v.extractLsb' 9 23 = 0)
    ∧ (∀ w, exec (.wr t .status w) s = .next s)
    ∧ (∃ v, exec (.rd t .flags) s = .next { s with rdata := v }
      ∧ v.extractLsb' 0 7 = s.flags.extractLsb' 0 7 ∧ v.extractLsb' 7 25 = 0)

/-- `REC_HDR`, `REC_F0` and `REC_F1` of the head of DFQ (R74, R75), field by field. -/
def Obligations.RecordHeaderLayout : Prop :=
  ∀ (s : State) (t : Stamp) (d : DecodedFrame) (rest : List DecodedFrame), s.dfq = d :: rest →
    (∃ v, exec (.rd t .recHdr) s = .next { s with rdata := v }
      ∧ v.extractLsb' 0 8 = d.address ∧ v.extractLsb' 8 8 = d.function
      ∧ v.extractLsb' 16 2 = (match d.cls with
          | .request => 0#2 | .response => 1#2 | .deferred => 2#2 | .unknown => 3#2)
      ∧ v.getLsbD 18 = d.crcValid ∧ v.getLsbD 19 = d.exception
      ∧ v.getLsbD 20 = d.firstReg.isSome ∧ v.getLsbD 21 = d.count.isSome
      ∧ v.getLsbD 22 = d.bcf.isSome ∧ v.getLsbD 23 = d.errorCode.isSome ∧ v.extractLsb' 24 8 = 0)
    ∧ (∃ v, exec (.rd t .recF0) s = .next { s with rdata := v }
      ∧ v.extractLsb' 0 16 = d.firstReg.getD 0 ∧ v.extractLsb' 16 16 = d.count.getD 0)
    ∧ (∃ v, exec (.rd t .recF1) s = .next { s with rdata := v }
      ∧ v.extractLsb' 0 8 = d.bcf.getD 0 ∧ v.extractLsb' 8 8 = d.errorCode.getD 0
      ∧ v.extractLsb' 16 8 = d.crcLo ∧ v.extractLsb' 24 8 = d.crcHi)

/-- `REC_LEN`, `REC_TS_LO` and `REC_TS_HI` of the head of DFQ (R76): lengths that fit their 16 bits read as they are, and
in an instance with BUF_CAP ≤ 65539 the lengths of every record fit. -/
def Obligations.RecordLengthAndTimeLayout : Prop :=
  ∀ (s : State) (t : Stamp) (d : DecodedFrame) (rest : List DecodedFrame), s.dfq = d :: rest →
    (d.payload.length < 2 ^ 16 → d.dataOff < 2 ^ 16 →
      ∃ v, exec (.rd t .recLen) s = .next { s with rdata := v }
        ∧ (v.extractLsb' 0 16).toNat = d.payload.length ∧ (v.extractLsb' 16 16).toNat = d.dataOff)
    ∧ (Invariant s → ∀ c, s.cfg.bufCap = some c → c ≤ 65539 →
      d.payload.length < 2 ^ 16 ∧ d.dataOff < 2 ^ 16)
    ∧ exec (.rd t .recTsLo) s = .next { s with rdata := d.ts.extractLsb' 0 32 }
    ∧ exec (.rd t .recTsHi) s = .next { s with rdata := d.ts.extractLsb' 32 32 }

/-- The LinkConfig layout (R71): `ACT_LINECFG` of a candidate read back with its baud rate is the candidate. -/
def Obligations.LinecfgLayoutReadsBack : Prop :=
  ∀ c : LinkConfig, linkOfRegisters c.baud (linecfgOf c) = some c ∧ (linecfgOf c).extractLsb' 4 28 = 0

/-! Rules about the whole machine. -/

/-- The invariants of 10_state.md hold after reset of every instance. -/
def Obligations.ResetMeetsTheInvariant : Prop :=
  ∀ cfg : Config, Invariant (State.resetWith cfg)

/-- Every step keeps the invariants: `LINE_OPEN` agrees with `MODE` and an unopened line has an empty BUF (R11, R16), no
store exceeds its capacity, CFQ holds frames of 4 bytes or more, reserved bits read 0, `SCAN_VALID ≤ SCAN_TOTAL` (R169),
timestamps lie in order, the cursor lies in the payload, every record says what its bytes say, no frame is longer than BUF
(R76). -/
def Obligations.EveryStepKeepsTheInvariant : Prop :=
  ∀ s s' : State, Invariant s → step s = .next s' → Invariant s'

/-- Mode transitions (R235) and no others: CAPTURE and SCAN never follow each other; CAPTURE is entered only by an `OPEN`
and SCAN only by a `SCAN_START`, both from IDLE; CAPTURE is left only by `CLOSE`, `RXEND` or a reset, SCAN only by a line
event, a `TICK` or a reset. -/
def Obligations.OnlyTheseModeTransitions : Prop :=
  ∀ s s' : State, step s = .next s' → s.mode ≠ s'.mode →
    (s.mode = .idle ∧ s'.mode = .capture ∧ ∃ t rest, s.inputs = .write t 0 32 1 :: rest)
    ∨ (s.mode = .idle ∧ s'.mode = .scan ∧ ∃ t rest, s.inputs = .write t 0 32 3 :: rest)
    ∨ (s.mode = .capture ∧ s'.mode = .idle
      ∧ ((∃ t rest, s.inputs = .write t 0 32 2 :: rest) ∨ (∃ t rest, s.inputs = .ended t :: rest) ∨ ResetNext s))
    ∨ (s.mode = .scan ∧ s'.mode = .idle
      ∧ ((∃ t b rest, s.inputs = .rx t b :: rest) ∨ (∃ t rest, s.inputs = .ended t :: rest)
        ∨ (∃ t rest, s.inputs = .tick t :: rest) ∨ ResetNext s))

/-- The queues are FIFOs (R187, R48): a step that is no reset leaves each as it is, or takes its head, or adds one entry
at its tail. -/
def Obligations.QueuesAreFirstInFirstOut : Prop :=
  ∀ s s' : State, step s = .next s' → ¬ ResetNext s →
    (s'.cfq = s.cfq ∨ (∃ cf, s.cfq = cf :: s'.cfq) ∨ (∃ cf, s'.cfq = s.cfq ++ [cf] ∧ 4 ≤ cf.bytes.length))
    ∧ (s'.dfq = s.dfq ∨ (∃ d, s.dfq = d :: s'.dfq) ∨ (∃ d, s'.dfq = s.dfq ++ [d]))

/-- `TIME` is written by no operation, and neither are the instance's parameters nor what has yet to arrive (R6, R10); a
step never turns `TIME` back. -/
def Obligations.NoOperationWritesTime : Prop :=
  (∀ (i : Instr) (s s' : State), exec i s = .next s' →
    s'.time = s.time ∧ s'.cfg = s.cfg ∧ s'.inputs = s.inputs)
  ∧ (∀ s s' : State, step s = .next s' → s.time.toNat ≤ s'.time.toNat ∧ s'.cfg = s.cfg)

/-- A configuration write has no effect on the running session (R51, R18): whatever the five configuration registers
hold, line events, `TICK`, `DECODE_STEP`, `CLOSE`, `SCAN_CANCEL` and `REC_POP` do the same to everything else. That this
holds of `OPTS.DISCARD_EN` where a line event or `TICK` opens a scan's next candidate is the model's reading, assumption 9,
against a sentence of R18. -/
def Obligations.ConfigurationWritesDoNotReachTheSession : Prop :=
  ∀ (s : State) (b l o g w : Word) (t : Stamp) (x : Byte),
    ∀ i ∈ [Instr.rxbyte t x, .rxend t, .tick t, .decodeStep, .closeCmd t, .scanCancel t, .recPop t],
      exec i (withConfig b l o g w s) = mapNext (withConfig b l o g w) (exec i s)

/-- The sticky flags are for observation only (R23): with other flags every operation but a read does the same to
everything else, and a flag that is set stays set unless the host clears it or resets the block. -/
def Obligations.StickyFlagsAreForObservationOnly : Prop :=
  (∀ (i : Instr) (s s' : State) (f : Word), (∀ t r, i ≠ .rd t r) → exec i s = .next s' →
    ∃ f', exec i { s with flags := f } = .next { s' with flags := f' })
  ∧ (∀ (i : Instr) (s s' : State) (k : Nat),
    (∀ t, i ≠ .softReset t) → (∀ t v, i ≠ .wr t .cmd v) → (∀ t v, i ≠ .wr t .flags v) →
    exec i s = .next s' → s.flags.getLsbD k = true → s'.flags.getLsbD k = true)

/-- A frame ended by silence only (R96): the byte values in BUF and the arriving byte's value do not influence where a
Segment ends. Two states that differ only in BUF's bytes, equally many, agree after any byte of CAPTURE on everything but
the bytes in BUF and in the frames of CFQ. -/
def Obligations.ByteValuesDoNotCutFrames : Prop :=
  ∀ (s s₁ s₂ : State) (t : Stamp) (b b' : Byte) (buf' : List Byte),
    s.mode = .capture → buf'.length = s.buf.length →
    exec (.rxbyte t b) s = .next s₁ → exec (.rxbyte t b') { s with buf := buf' } = .next s₂ →
    s₁.buf.length = s₂.buf.length ∧ s₁.cfq.length = s₂.cfq.length ∧ s₁.flags = s₂.flags
    ∧ s₁.cfq.map (fun cf => (cf.bytes.length, cf.ts, cf.inGrace))
      = s₂.cfq.map (fun cf => (cf.bytes.length, cf.ts, cf.inGrace))
    ∧ s₂ = { s₁ with buf := s₂.buf, cfq := s₂.cfq }

/-- Endless runs under the fairness the spec assumes (R262, R194). While time is seen to pass, a scan with a cancel pending
ends CANCELLED with its line closed unless a reset comes first, and the observation of a candidate whose window ends before
2^64 ends: the scan is over or a later candidate is under test. While the decode stage is weakly fair, the head of CFQ is
taken, with what came after it still in order, unless a reset comes first. -/
def Obligations.FairRunsMakeProgress : Prop :=
  ∀ (arrivals : Nat → List Input) (σ : Nat → State), Execution arrivals σ →
    (TimeIsSeenToPass arrivals σ → ∀ n, (σ n).mode = .scan →
      ((σ n).cancelReq = true → ∃ m, n ≤ m ∧
        (ResetNext (feed (arrivals m) (σ m))
          ∨ (σ (m + 1)).scanOutcome = .cancelled ∧ (σ (m + 1)).mode = .idle ∧ (σ (m + 1)).lineOpen = false))
      ∧ ((σ n).tOpen.toNat + (σ n).actWindow.toNat < 2 ^ 64 →
        ∃ m, n < m ∧ ((σ m).mode = .idle ∨ (σ n).candIdx < (σ m).candIdx)))
    ∧ (DecodeIsWeaklyFair arrivals σ → ∀ n cf rest, (σ n).cfq = cf :: rest → ∃ m, n ≤ m ∧
        (ResetNext (feed (arrivals m) (σ m))
          ∨ ∃ more, (σ m).cfq = cf :: (rest ++ more) ∧ (σ (m + 1)).cfq = rest ++ more))

end
end

