-- ==== Sys2Proof/Laws/State.lean ====
section
/-! SUPPORT. What each named update of the state leaves in each field, so that no proof unfolds one. -/

namespace Sys2Proof.Machine

@[simp] theorem setFlag_cfg (f : Flag) (s : State) : (setFlag f s).cfg = s.cfg := rfl
@[simp] theorem setFlag_inputs (f : Flag) (s : State) : (setFlag f s).inputs = s.inputs := rfl
@[simp] theorem setFlag_time (f : Flag) (s : State) : (setFlag f s).time = s.time := rfl
@[simp] theorem setFlag_buf (f : Flag) (s : State) : (setFlag f s).buf = s.buf := rfl
@[simp] theorem setFlag_tPrev (f : Flag) (s : State) : (setFlag f s).tPrev = s.tPrev := rfl
@[simp] theorem setFlag_tOpen (f : Flag) (s : State) : (setFlag f s).tOpen = s.tOpen := rfl
@[simp] theorem setFlag_mode (f : Flag) (s : State) : (setFlag f s).mode = s.mode := rfl
@[simp] theorem setFlag_lineOpen (f : Flag) (s : State) : (setFlag f s).lineOpen = s.lineOpen := rfl
@[simp] theorem setFlag_baud (f : Flag) (s : State) : (setFlag f s).baud = s.baud := rfl
@[simp] theorem setFlag_linecfg (f : Flag) (s : State) : (setFlag f s).linecfg = s.linecfg := rfl
@[simp] theorem setFlag_opts (f : Flag) (s : State) : (setFlag f s).opts = s.opts := rfl
@[simp] theorem setFlag_graceTicks (f : Flag) (s : State) : (setFlag f s).graceTicks = s.graceTicks := rfl
@[simp] theorem setFlag_scanWindow (f : Flag) (s : State) : (setFlag f s).scanWindow = s.scanWindow := rfl
@[simp] theorem setFlag_actBaud (f : Flag) (s : State) : (setFlag f s).actBaud = s.actBaud := rfl
@[simp] theorem setFlag_actLinecfg (f : Flag) (s : State) : (setFlag f s).actLinecfg = s.actLinecfg := rfl
@[simp] theorem setFlag_actDiscard (f : Flag) (s : State) : (setFlag f s).actDiscard = s.actDiscard := rfl
@[simp] theorem setFlag_actGraceEn (f : Flag) (s : State) : (setFlag f s).actGraceEn = s.actGraceEn := rfl
@[simp] theorem setFlag_actGraceTicks (f : Flag) (s : State) : (setFlag f s).actGraceTicks = s.actGraceTicks := rfl
@[simp] theorem setFlag_actWindow (f : Flag) (s : State) : (setFlag f s).actWindow = s.actWindow := rfl
@[simp] theorem setFlag_cfq (f : Flag) (s : State) : (setFlag f s).cfq = s.cfq := rfl
@[simp] theorem setFlag_dfq (f : Flag) (s : State) : (setFlag f s).dfq = s.dfq := rfl
@[simp] theorem setFlag_flags (f : Flag) (s : State) : (setFlag f s).flags = s.flags ||| flagMask f := rfl
@[simp] theorem setFlag_candIdx (f : Flag) (s : State) : (setFlag f s).candIdx = s.candIdx := rfl
@[simp] theorem setFlag_scanTotal (f : Flag) (s : State) : (setFlag f s).scanTotal = s.scanTotal := rfl
@[simp] theorem setFlag_scanValid (f : Flag) (s : State) : (setFlag f s).scanValid = s.scanValid := rfl
@[simp] theorem setFlag_cancelReq (f : Flag) (s : State) : (setFlag f s).cancelReq = s.cancelReq := rfl
@[simp] theorem setFlag_scanOutcome (f : Flag) (s : State) : (setFlag f s).scanOutcome = s.scanOutcome := rfl
@[simp] theorem setFlag_foundBaud (f : Flag) (s : State) : (setFlag f s).foundBaud = s.foundBaud := rfl
@[simp] theorem setFlag_foundLinecfg (f : Flag) (s : State) : (setFlag f s).foundLinecfg = s.foundLinecfg := rfl
@[simp] theorem setFlag_recCur (f : Flag) (s : State) : (setFlag f s).recCur = s.recCur := rfl
@[simp] theorem setFlag_actions (f : Flag) (s : State) : (setFlag f s).actions = s.actions := rfl
@[simp] theorem setFlag_rdata (f : Flag) (s : State) : (setFlag f s).rdata = s.rdata := rfl

@[simp] theorem clearFlags_cfg (m : Word) (s : State) : (clearFlags m s).cfg = s.cfg := rfl
@[simp] theorem clearFlags_inputs (m : Word) (s : State) : (clearFlags m s).inputs = s.inputs := rfl
@[simp] theorem clearFlags_time (m : Word) (s : State) : (clearFlags m s).time = s.time := rfl
@[simp] theorem clearFlags_buf (m : Word) (s : State) : (clearFlags m s).buf = s.buf := rfl
@[simp] theorem clearFlags_tPrev (m : Word) (s : State) : (clearFlags m s).tPrev = s.tPrev := rfl
@[simp] theorem clearFlags_tOpen (m : Word) (s : State) : (clearFlags m s).tOpen = s.tOpen := rfl
@[simp] theorem clearFlags_mode (m : Word) (s : State) : (clearFlags m s).mode = s.mode := rfl
@[simp] theorem clearFlags_lineOpen (m : Word) (s : State) : (clearFlags m s).lineOpen = s.lineOpen := rfl
@[simp] theorem clearFlags_baud (m : Word) (s : State) : (clearFlags m s).baud = s.baud := rfl
@[simp] theorem clearFlags_linecfg (m : Word) (s : State) : (clearFlags m s).linecfg = s.linecfg := rfl
@[simp] theorem clearFlags_opts (m : Word) (s : State) : (clearFlags m s).opts = s.opts := rfl
@[simp] theorem clearFlags_graceTicks (m : Word) (s : State) : (clearFlags m s).graceTicks = s.graceTicks := rfl
@[simp] theorem clearFlags_scanWindow (m : Word) (s : State) : (clearFlags m s).scanWindow = s.scanWindow := rfl
@[simp] theorem clearFlags_actBaud (m : Word) (s : State) : (clearFlags m s).actBaud = s.actBaud := rfl
@[simp] theorem clearFlags_actLinecfg (m : Word) (s : State) : (clearFlags m s).actLinecfg = s.actLinecfg := rfl
@[simp] theorem clearFlags_actDiscard (m : Word) (s : State) : (clearFlags m s).actDiscard = s.actDiscard := rfl
@[simp] theorem clearFlags_actGraceEn (m : Word) (s : State) : (clearFlags m s).actGraceEn = s.actGraceEn := rfl
@[simp] theorem clearFlags_actGraceTicks (m : Word) (s : State) :
    (clearFlags m s).actGraceTicks = s.actGraceTicks := rfl
@[simp] theorem clearFlags_actWindow (m : Word) (s : State) : (clearFlags m s).actWindow = s.actWindow := rfl
@[simp] theorem clearFlags_cfq (m : Word) (s : State) : (clearFlags m s).cfq = s.cfq := rfl
@[simp] theorem clearFlags_dfq (m : Word) (s : State) : (clearFlags m s).dfq = s.dfq := rfl
@[simp] theorem clearFlags_flags (m : Word) (s : State) : (clearFlags m s).flags = s.flags &&& ~~~m := rfl
@[simp] theorem clearFlags_candIdx (m : Word) (s : State) : (clearFlags m s).candIdx = s.candIdx := rfl
@[simp] theorem clearFlags_scanTotal (m : Word) (s : State) : (clearFlags m s).scanTotal = s.scanTotal := rfl
@[simp] theorem clearFlags_scanValid (m : Word) (s : State) : (clearFlags m s).scanValid = s.scanValid := rfl
@[simp] theorem clearFlags_cancelReq (m : Word) (s : State) : (clearFlags m s).cancelReq = s.cancelReq := rfl
@[simp] theorem clearFlags_scanOutcome (m : Word) (s : State) : (clearFlags m s).scanOutcome = s.scanOutcome := rfl
@[simp] theorem clearFlags_foundBaud (m : Word) (s : State) : (clearFlags m s).foundBaud = s.foundBaud := rfl
@[simp] theorem clearFlags_foundLinecfg (m : Word) (s : State) : (clearFlags m s).foundLinecfg = s.foundLinecfg := rfl
@[simp] theorem clearFlags_recCur (m : Word) (s : State) : (clearFlags m s).recCur = s.recCur := rfl
@[simp] theorem clearFlags_actions (m : Word) (s : State) : (clearFlags m s).actions = s.actions := rfl
@[simp] theorem clearFlags_rdata (m : Word) (s : State) : (clearFlags m s).rdata = s.rdata := rfl

@[simp] theorem emit_cfg (a : SrcAction) (s : State) : (emit a s).cfg = s.cfg := rfl
@[simp] theorem emit_inputs (a : SrcAction) (s : State) : (emit a s).inputs = s.inputs := rfl
@[simp] theorem emit_time (a : SrcAction) (s : State) : (emit a s).time = s.time := rfl
@[simp] theorem emit_buf (a : SrcAction) (s : State) : (emit a s).buf = s.buf := rfl
@[simp] theorem emit_tPrev (a : SrcAction) (s : State) : (emit a s).tPrev = s.tPrev := rfl
@[simp] theorem emit_tOpen (a : SrcAction) (s : State) : (emit a s).tOpen = s.tOpen := rfl
@[simp] theorem emit_mode (a : SrcAction) (s : State) : (emit a s).mode = s.mode := rfl
@[simp] theorem emit_lineOpen (a : SrcAction) (s : State) : (emit a s).lineOpen = s.lineOpen := rfl
@[simp] theorem emit_baud (a : SrcAction) (s : State) : (emit a s).baud = s.baud := rfl
@[simp] theorem emit_linecfg (a : SrcAction) (s : State) : (emit a s).linecfg = s.linecfg := rfl
@[simp] theorem emit_opts (a : SrcAction) (s : State) : (emit a s).opts = s.opts := rfl
@[simp] theorem emit_graceTicks (a : SrcAction) (s : State) : (emit a s).graceTicks = s.graceTicks := rfl
@[simp] theorem emit_scanWindow (a : SrcAction) (s : State) : (emit a s).scanWindow = s.scanWindow := rfl
@[simp] theorem emit_actBaud (a : SrcAction) (s : State) : (emit a s).actBaud = s.actBaud := rfl
@[simp] theorem emit_actLinecfg (a : SrcAction) (s : State) : (emit a s).actLinecfg = s.actLinecfg := rfl
@[simp] theorem emit_actDiscard (a : SrcAction) (s : State) : (emit a s).actDiscard = s.actDiscard := rfl
@[simp] theorem emit_actGraceEn (a : SrcAction) (s : State) : (emit a s).actGraceEn = s.actGraceEn := rfl
@[simp] theorem emit_actGraceTicks (a : SrcAction) (s : State) : (emit a s).actGraceTicks = s.actGraceTicks := rfl
@[simp] theorem emit_actWindow (a : SrcAction) (s : State) : (emit a s).actWindow = s.actWindow := rfl
@[simp] theorem emit_cfq (a : SrcAction) (s : State) : (emit a s).cfq = s.cfq := rfl
@[simp] theorem emit_dfq (a : SrcAction) (s : State) : (emit a s).dfq = s.dfq := rfl
@[simp] theorem emit_flags (a : SrcAction) (s : State) : (emit a s).flags = s.flags := rfl
@[simp] theorem emit_candIdx (a : SrcAction) (s : State) : (emit a s).candIdx = s.candIdx := rfl
@[simp] theorem emit_scanTotal (a : SrcAction) (s : State) : (emit a s).scanTotal = s.scanTotal := rfl
@[simp] theorem emit_scanValid (a : SrcAction) (s : State) : (emit a s).scanValid = s.scanValid := rfl
@[simp] theorem emit_cancelReq (a : SrcAction) (s : State) : (emit a s).cancelReq = s.cancelReq := rfl
@[simp] theorem emit_scanOutcome (a : SrcAction) (s : State) : (emit a s).scanOutcome = s.scanOutcome := rfl
@[simp] theorem emit_foundBaud (a : SrcAction) (s : State) : (emit a s).foundBaud = s.foundBaud := rfl
@[simp] theorem emit_foundLinecfg (a : SrcAction) (s : State) : (emit a s).foundLinecfg = s.foundLinecfg := rfl
@[simp] theorem emit_recCur (a : SrcAction) (s : State) : (emit a s).recCur = s.recCur := rfl
@[simp] theorem emit_actions (a : SrcAction) (s : State) : (emit a s).actions = s.actions ++ [a] := rfl
@[simp] theorem emit_rdata (a : SrcAction) (s : State) : (emit a s).rdata = s.rdata := rfl

@[simp] theorem openSource_cfg (s : State) : (openSource s).cfg = s.cfg := rfl
@[simp] theorem openSource_inputs (s : State) : (openSource s).inputs = s.inputs := rfl
@[simp] theorem openSource_time (s : State) : (openSource s).time = s.time := rfl
@[simp] theorem openSource_buf (s : State) : (openSource s).buf = s.buf := rfl
@[simp] theorem openSource_tPrev (s : State) : (openSource s).tPrev = s.tPrev := rfl
@[simp] theorem openSource_tOpen (s : State) : (openSource s).tOpen = s.tOpen := rfl
@[simp] theorem openSource_mode (s : State) : (openSource s).mode = s.mode := rfl
@[simp] theorem openSource_lineOpen (s : State) : (openSource s).lineOpen = true := rfl
@[simp] theorem openSource_baud (s : State) : (openSource s).baud = s.baud := rfl
@[simp] theorem openSource_linecfg (s : State) : (openSource s).linecfg = s.linecfg := rfl
@[simp] theorem openSource_opts (s : State) : (openSource s).opts = s.opts := rfl
@[simp] theorem openSource_graceTicks (s : State) : (openSource s).graceTicks = s.graceTicks := rfl
@[simp] theorem openSource_scanWindow (s : State) : (openSource s).scanWindow = s.scanWindow := rfl
@[simp] theorem openSource_actBaud (s : State) : (openSource s).actBaud = s.actBaud := rfl
@[simp] theorem openSource_actLinecfg (s : State) : (openSource s).actLinecfg = s.actLinecfg := rfl
@[simp] theorem openSource_actDiscard (s : State) : (openSource s).actDiscard = s.actDiscard := rfl
@[simp] theorem openSource_actGraceEn (s : State) : (openSource s).actGraceEn = s.actGraceEn := rfl
@[simp] theorem openSource_actGraceTicks (s : State) : (openSource s).actGraceTicks = s.actGraceTicks := rfl
@[simp] theorem openSource_actWindow (s : State) : (openSource s).actWindow = s.actWindow := rfl
@[simp] theorem openSource_cfq (s : State) : (openSource s).cfq = s.cfq := rfl
@[simp] theorem openSource_dfq (s : State) : (openSource s).dfq = s.dfq := rfl
@[simp] theorem openSource_flags (s : State) : (openSource s).flags = s.flags := rfl
@[simp] theorem openSource_candIdx (s : State) : (openSource s).candIdx = s.candIdx := rfl
@[simp] theorem openSource_scanTotal (s : State) : (openSource s).scanTotal = s.scanTotal := rfl
@[simp] theorem openSource_scanValid (s : State) : (openSource s).scanValid = s.scanValid := rfl
@[simp] theorem openSource_cancelReq (s : State) : (openSource s).cancelReq = s.cancelReq := rfl
@[simp] theorem openSource_scanOutcome (s : State) : (openSource s).scanOutcome = s.scanOutcome := rfl
@[simp] theorem openSource_foundBaud (s : State) : (openSource s).foundBaud = s.foundBaud := rfl
@[simp] theorem openSource_foundLinecfg (s : State) : (openSource s).foundLinecfg = s.foundLinecfg := rfl
@[simp] theorem openSource_recCur (s : State) : (openSource s).recCur = s.recCur := rfl
@[simp] theorem openSource_actions (s : State) : (openSource s).actions = s.actions ++ [.openSource] := rfl
@[simp] theorem openSource_rdata (s : State) : (openSource s).rdata = s.rdata := rfl

@[simp] theorem closeSource_cfg (s : State) : (closeSource s).cfg = s.cfg := rfl
@[simp] theorem closeSource_inputs (s : State) : (closeSource s).inputs = s.inputs := rfl
@[simp] theorem closeSource_time (s : State) : (closeSource s).time = s.time := rfl
@[simp] theorem closeSource_buf (s : State) : (closeSource s).buf = s.buf := rfl
@[simp] theorem closeSource_tPrev (s : State) : (closeSource s).tPrev = s.tPrev := rfl
@[simp] theorem closeSource_tOpen (s : State) : (closeSource s).tOpen = s.tOpen := rfl
@[simp] theorem closeSource_mode (s : State) : (closeSource s).mode = s.mode := rfl
@[simp] theorem closeSource_lineOpen (s : State) : (closeSource s).lineOpen = false := rfl
@[simp] theorem closeSource_baud (s : State) : (closeSource s).baud = s.baud := rfl
@[simp] theorem closeSource_linecfg (s : State) : (closeSource s).linecfg = s.linecfg := rfl
@[simp] theorem closeSource_opts (s : State) : (closeSource s).opts = s.opts := rfl
@[simp] theorem closeSource_graceTicks (s : State) : (closeSource s).graceTicks = s.graceTicks := rfl
@[simp] theorem closeSource_scanWindow (s : State) : (closeSource s).scanWindow = s.scanWindow := rfl
@[simp] theorem closeSource_actBaud (s : State) : (closeSource s).actBaud = s.actBaud := rfl
@[simp] theorem closeSource_actLinecfg (s : State) : (closeSource s).actLinecfg = s.actLinecfg := rfl
@[simp] theorem closeSource_actDiscard (s : State) : (closeSource s).actDiscard = s.actDiscard := rfl
@[simp] theorem closeSource_actGraceEn (s : State) : (closeSource s).actGraceEn = s.actGraceEn := rfl
@[simp] theorem closeSource_actGraceTicks (s : State) : (closeSource s).actGraceTicks = s.actGraceTicks := rfl
@[simp] theorem closeSource_actWindow (s : State) : (closeSource s).actWindow = s.actWindow := rfl
@[simp] theorem closeSource_cfq (s : State) : (closeSource s).cfq = s.cfq := rfl
@[simp] theorem closeSource_dfq (s : State) : (closeSource s).dfq = s.dfq := rfl
@[simp] theorem closeSource_flags (s : State) : (closeSource s).flags = s.flags := rfl
@[simp] theorem closeSource_candIdx (s : State) : (closeSource s).candIdx = s.candIdx := rfl
@[simp] theorem closeSource_scanTotal (s : State) : (closeSource s).scanTotal = s.scanTotal := rfl
@[simp] theorem closeSource_scanValid (s : State) : (closeSource s).scanValid = s.scanValid := rfl
@[simp] theorem closeSource_cancelReq (s : State) : (closeSource s).cancelReq = s.cancelReq := rfl
@[simp] theorem closeSource_scanOutcome (s : State) : (closeSource s).scanOutcome = s.scanOutcome := rfl
@[simp] theorem closeSource_foundBaud (s : State) : (closeSource s).foundBaud = s.foundBaud := rfl
@[simp] theorem closeSource_foundLinecfg (s : State) : (closeSource s).foundLinecfg = s.foundLinecfg := rfl
@[simp] theorem closeSource_recCur (s : State) : (closeSource s).recCur = s.recCur := rfl
@[simp] theorem closeSource_actions (s : State) : (closeSource s).actions = s.actions ++ [.closeSource] := rfl
@[simp] theorem closeSource_rdata (s : State) : (closeSource s).rdata = s.rdata := rfl

@[simp] theorem finish_cfg (o : ScanOutcome) (s : State) : (finish o s).cfg = s.cfg := rfl
@[simp] theorem finish_inputs (o : ScanOutcome) (s : State) : (finish o s).inputs = s.inputs := rfl
@[simp] theorem finish_time (o : ScanOutcome) (s : State) : (finish o s).time = s.time := rfl
@[simp] theorem finish_buf (o : ScanOutcome) (s : State) : (finish o s).buf = s.buf := rfl
@[simp] theorem finish_tPrev (o : ScanOutcome) (s : State) : (finish o s).tPrev = s.tPrev := rfl
@[simp] theorem finish_tOpen (o : ScanOutcome) (s : State) : (finish o s).tOpen = s.tOpen := rfl
@[simp] theorem finish_mode (o : ScanOutcome) (s : State) : (finish o s).mode = .idle := rfl
@[simp] theorem finish_lineOpen (o : ScanOutcome) (s : State) : (finish o s).lineOpen = s.lineOpen := rfl
@[simp] theorem finish_baud (o : ScanOutcome) (s : State) : (finish o s).baud = s.baud := rfl
@[simp] theorem finish_linecfg (o : ScanOutcome) (s : State) : (finish o s).linecfg = s.linecfg := rfl
@[simp] theorem finish_opts (o : ScanOutcome) (s : State) : (finish o s).opts = s.opts := rfl
@[simp] theorem finish_graceTicks (o : ScanOutcome) (s : State) : (finish o s).graceTicks = s.graceTicks := rfl
@[simp] theorem finish_scanWindow (o : ScanOutcome) (s : State) : (finish o s).scanWindow = s.scanWindow := rfl
@[simp] theorem finish_actBaud (o : ScanOutcome) (s : State) : (finish o s).actBaud = s.actBaud := rfl
@[simp] theorem finish_actLinecfg (o : ScanOutcome) (s : State) : (finish o s).actLinecfg = s.actLinecfg := rfl
@[simp] theorem finish_actDiscard (o : ScanOutcome) (s : State) : (finish o s).actDiscard = s.actDiscard := rfl
@[simp] theorem finish_actGraceEn (o : ScanOutcome) (s : State) : (finish o s).actGraceEn = s.actGraceEn := rfl
@[simp] theorem finish_actGraceTicks (o : ScanOutcome) (s : State) :
    (finish o s).actGraceTicks = s.actGraceTicks := rfl
@[simp] theorem finish_actWindow (o : ScanOutcome) (s : State) : (finish o s).actWindow = s.actWindow := rfl
@[simp] theorem finish_cfq (o : ScanOutcome) (s : State) : (finish o s).cfq = s.cfq := rfl
@[simp] theorem finish_dfq (o : ScanOutcome) (s : State) : (finish o s).dfq = s.dfq := rfl
@[simp] theorem finish_flags (o : ScanOutcome) (s : State) : (finish o s).flags = s.flags ||| 0x02#32 := rfl
@[simp] theorem finish_candIdx (o : ScanOutcome) (s : State) : (finish o s).candIdx = s.candIdx := rfl
@[simp] theorem finish_scanTotal (o : ScanOutcome) (s : State) : (finish o s).scanTotal = s.scanTotal := rfl
@[simp] theorem finish_scanValid (o : ScanOutcome) (s : State) : (finish o s).scanValid = s.scanValid := rfl
@[simp] theorem finish_cancelReq (o : ScanOutcome) (s : State) : (finish o s).cancelReq = s.cancelReq := rfl
@[simp] theorem finish_scanOutcome (o : ScanOutcome) (s : State) : (finish o s).scanOutcome = o := rfl
@[simp] theorem finish_foundBaud (o : ScanOutcome) (s : State) : (finish o s).foundBaud = s.foundBaud := rfl
@[simp] theorem finish_foundLinecfg (o : ScanOutcome) (s : State) : (finish o s).foundLinecfg = s.foundLinecfg := rfl
@[simp] theorem finish_recCur (o : ScanOutcome) (s : State) : (finish o s).recCur = s.recCur := rfl
@[simp] theorem finish_actions (o : ScanOutcome) (s : State) : (finish o s).actions = s.actions := rfl
@[simp] theorem finish_rdata (o : ScanOutcome) (s : State) : (finish o s).rdata = s.rdata := rfl

@[simp] theorem refuse_cfg (s : State) : (refuse s).cfg = s.cfg := rfl
@[simp] theorem refuse_inputs (s : State) : (refuse s).inputs = s.inputs := rfl
@[simp] theorem refuse_time (s : State) : (refuse s).time = s.time := rfl
@[simp] theorem refuse_buf (s : State) : (refuse s).buf = s.buf := rfl
@[simp] theorem refuse_tPrev (s : State) : (refuse s).tPrev = s.tPrev := rfl
@[simp] theorem refuse_tOpen (s : State) : (refuse s).tOpen = s.tOpen := rfl
@[simp] theorem refuse_mode (s : State) : (refuse s).mode = s.mode := rfl
@[simp] theorem refuse_lineOpen (s : State) : (refuse s).lineOpen = s.lineOpen := rfl
@[simp] theorem refuse_baud (s : State) : (refuse s).baud = s.baud := rfl
@[simp] theorem refuse_linecfg (s : State) : (refuse s).linecfg = s.linecfg := rfl
@[simp] theorem refuse_opts (s : State) : (refuse s).opts = s.opts := rfl
@[simp] theorem refuse_graceTicks (s : State) : (refuse s).graceTicks = s.graceTicks := rfl
@[simp] theorem refuse_scanWindow (s : State) : (refuse s).scanWindow = s.scanWindow := rfl
@[simp] theorem refuse_actBaud (s : State) : (refuse s).actBaud = s.actBaud := rfl
@[simp] theorem refuse_actLinecfg (s : State) : (refuse s).actLinecfg = s.actLinecfg := rfl
@[simp] theorem refuse_actDiscard (s : State) : (refuse s).actDiscard = s.actDiscard := rfl
@[simp] theorem refuse_actGraceEn (s : State) : (refuse s).actGraceEn = s.actGraceEn := rfl
@[simp] theorem refuse_actGraceTicks (s : State) : (refuse s).actGraceTicks = s.actGraceTicks := rfl
@[simp] theorem refuse_actWindow (s : State) : (refuse s).actWindow = s.actWindow := rfl
@[simp] theorem refuse_cfq (s : State) : (refuse s).cfq = s.cfq := rfl
@[simp] theorem refuse_dfq (s : State) : (refuse s).dfq = s.dfq := rfl
@[simp] theorem refuse_flags (s : State) : (refuse s).flags = s.flags ||| 0x40#32 := rfl
@[simp] theorem refuse_candIdx (s : State) : (refuse s).candIdx = s.candIdx := rfl
@[simp] theorem refuse_scanTotal (s : State) : (refuse s).scanTotal = s.scanTotal := rfl
@[simp] theorem refuse_scanValid (s : State) : (refuse s).scanValid = s.scanValid := rfl
@[simp] theorem refuse_cancelReq (s : State) : (refuse s).cancelReq = s.cancelReq := rfl
@[simp] theorem refuse_scanOutcome (s : State) : (refuse s).scanOutcome = s.scanOutcome := rfl
@[simp] theorem refuse_foundBaud (s : State) : (refuse s).foundBaud = s.foundBaud := rfl
@[simp] theorem refuse_foundLinecfg (s : State) : (refuse s).foundLinecfg = s.foundLinecfg := rfl
@[simp] theorem refuse_recCur (s : State) : (refuse s).recCur = s.recCur := rfl
@[simp] theorem refuse_actions (s : State) : (refuse s).actions = s.actions := rfl
@[simp] theorem refuse_rdata (s : State) : (refuse s).rdata = s.rdata := rfl

@[simp] theorem scanCount_cfg (g : Segment) (s : State) : (scanCount g s).cfg = s.cfg := rfl
@[simp] theorem scanCount_inputs (g : Segment) (s : State) : (scanCount g s).inputs = s.inputs := rfl
@[simp] theorem scanCount_time (g : Segment) (s : State) : (scanCount g s).time = s.time := rfl
@[simp] theorem scanCount_buf (g : Segment) (s : State) : (scanCount g s).buf = s.buf := rfl
@[simp] theorem scanCount_tPrev (g : Segment) (s : State) : (scanCount g s).tPrev = s.tPrev := rfl
@[simp] theorem scanCount_tOpen (g : Segment) (s : State) : (scanCount g s).tOpen = s.tOpen := rfl
@[simp] theorem scanCount_mode (g : Segment) (s : State) : (scanCount g s).mode = s.mode := rfl
@[simp] theorem scanCount_lineOpen (g : Segment) (s : State) : (scanCount g s).lineOpen = s.lineOpen := rfl
@[simp] theorem scanCount_baud (g : Segment) (s : State) : (scanCount g s).baud = s.baud := rfl
@[simp] theorem scanCount_linecfg (g : Segment) (s : State) : (scanCount g s).linecfg = s.linecfg := rfl
@[simp] theorem scanCount_opts (g : Segment) (s : State) : (scanCount g s).opts = s.opts := rfl
@[simp] theorem scanCount_graceTicks (g : Segment) (s : State) : (scanCount g s).graceTicks = s.graceTicks := rfl
@[simp] theorem scanCount_scanWindow (g : Segment) (s : State) : (scanCount g s).scanWindow = s.scanWindow := rfl
@[simp] theorem scanCount_actBaud (g : Segment) (s : State) : (scanCount g s).actBaud = s.actBaud := rfl
@[simp] theorem scanCount_actLinecfg (g : Segment) (s : State) : (scanCount g s).actLinecfg = s.actLinecfg := rfl
@[simp] theorem scanCount_actDiscard (g : Segment) (s : State) : (scanCount g s).actDiscard = s.actDiscard := rfl
@[simp] theorem scanCount_actGraceEn (g : Segment) (s : State) : (scanCount g s).actGraceEn = s.actGraceEn := rfl
@[simp] theorem scanCount_actGraceTicks (g : Segment) (s : State) :
    (scanCount g s).actGraceTicks = s.actGraceTicks := rfl
@[simp] theorem scanCount_actWindow (g : Segment) (s : State) : (scanCount g s).actWindow = s.actWindow := rfl
@[simp] theorem scanCount_cfq (g : Segment) (s : State) : (scanCount g s).cfq = s.cfq := rfl
@[simp] theorem scanCount_dfq (g : Segment) (s : State) : (scanCount g s).dfq = s.dfq := rfl
@[simp] theorem scanCount_flags (g : Segment) (s : State) : (scanCount g s).flags = s.flags := rfl
@[simp] theorem scanCount_candIdx (g : Segment) (s : State) : (scanCount g s).candIdx = s.candIdx := rfl
@[simp] theorem scanCount_scanTotal (g : Segment) (s : State) : (scanCount g s).scanTotal = s.scanTotal + 1 := rfl
@[simp] theorem scanCount_scanValid (g : Segment) (s : State) :
    (scanCount g s).scanValid = if crcValid g.bytes then s.scanValid + 1 else s.scanValid := rfl
@[simp] theorem scanCount_cancelReq (g : Segment) (s : State) : (scanCount g s).cancelReq = s.cancelReq := rfl
@[simp] theorem scanCount_scanOutcome (g : Segment) (s : State) : (scanCount g s).scanOutcome = s.scanOutcome := rfl
@[simp] theorem scanCount_foundBaud (g : Segment) (s : State) : (scanCount g s).foundBaud = s.foundBaud := rfl
@[simp] theorem scanCount_foundLinecfg (g : Segment) (s : State) :
    (scanCount g s).foundLinecfg = s.foundLinecfg := rfl
@[simp] theorem scanCount_recCur (g : Segment) (s : State) : (scanCount g s).recCur = s.recCur := rfl
@[simp] theorem scanCount_actions (g : Segment) (s : State) : (scanCount g s).actions = s.actions := rfl
@[simp] theorem scanCount_rdata (g : Segment) (s : State) : (scanCount g s).rdata = s.rdata := rfl

@[simp] theorem closeObservation_cfg (s : State) : (closeObservation s).cfg = s.cfg := rfl
@[simp] theorem closeObservation_inputs (s : State) : (closeObservation s).inputs = s.inputs := rfl
@[simp] theorem closeObservation_time (s : State) : (closeObservation s).time = s.time := rfl
@[simp] theorem closeObservation_buf (s : State) : (closeObservation s).buf = [] := rfl
@[simp] theorem closeObservation_tPrev (s : State) : (closeObservation s).tPrev = s.tPrev := rfl
@[simp] theorem closeObservation_tOpen (s : State) : (closeObservation s).tOpen = s.tOpen := rfl
@[simp] theorem closeObservation_mode (s : State) : (closeObservation s).mode = s.mode := rfl
@[simp] theorem closeObservation_lineOpen (s : State) : (closeObservation s).lineOpen = false := rfl
@[simp] theorem closeObservation_baud (s : State) : (closeObservation s).baud = s.baud := rfl
@[simp] theorem closeObservation_linecfg (s : State) : (closeObservation s).linecfg = s.linecfg := rfl
@[simp] theorem closeObservation_opts (s : State) : (closeObservation s).opts = s.opts := rfl
@[simp] theorem closeObservation_graceTicks (s : State) : (closeObservation s).graceTicks = s.graceTicks := rfl
@[simp] theorem closeObservation_scanWindow (s : State) : (closeObservation s).scanWindow = s.scanWindow := rfl
@[simp] theorem closeObservation_actBaud (s : State) : (closeObservation s).actBaud = s.actBaud := rfl
@[simp] theorem closeObservation_actLinecfg (s : State) : (closeObservation s).actLinecfg = s.actLinecfg := rfl
@[simp] theorem closeObservation_actDiscard (s : State) : (closeObservation s).actDiscard = s.actDiscard := rfl
@[simp] theorem closeObservation_actGraceEn (s : State) : (closeObservation s).actGraceEn = s.actGraceEn := rfl
@[simp] theorem closeObservation_actGraceTicks (s : State) :
    (closeObservation s).actGraceTicks = s.actGraceTicks := rfl
@[simp] theorem closeObservation_actWindow (s : State) : (closeObservation s).actWindow = s.actWindow := rfl
@[simp] theorem closeObservation_cfq (s : State) : (closeObservation s).cfq = s.cfq := rfl
@[simp] theorem closeObservation_dfq (s : State) : (closeObservation s).dfq = s.dfq := rfl
@[simp] theorem closeObservation_flags (s : State) : (closeObservation s).flags = s.flags := rfl
@[simp] theorem closeObservation_candIdx (s : State) : (closeObservation s).candIdx = s.candIdx := rfl
@[simp] theorem closeObservation_scanTotal (s : State) : (closeObservation s).scanTotal = s.scanTotal := rfl
@[simp] theorem closeObservation_scanValid (s : State) : (closeObservation s).scanValid = s.scanValid := rfl
@[simp] theorem closeObservation_cancelReq (s : State) : (closeObservation s).cancelReq = s.cancelReq := rfl
@[simp] theorem closeObservation_scanOutcome (s : State) : (closeObservation s).scanOutcome = s.scanOutcome := rfl
@[simp] theorem closeObservation_foundBaud (s : State) : (closeObservation s).foundBaud = s.foundBaud := rfl
@[simp] theorem closeObservation_foundLinecfg (s : State) : (closeObservation s).foundLinecfg = s.foundLinecfg := rfl
@[simp] theorem closeObservation_recCur (s : State) : (closeObservation s).recCur = s.recCur := rfl
@[simp] theorem closeObservation_actions (s : State) :
    (closeObservation s).actions = s.actions ++ [.closeSource] := rfl
@[simp] theorem closeObservation_rdata (s : State) : (closeObservation s).rdata = s.rdata := rfl

@[simp] theorem loseObservation_cfg (s : State) : (loseObservation s).cfg = s.cfg := rfl
@[simp] theorem loseObservation_inputs (s : State) : (loseObservation s).inputs = s.inputs := rfl
@[simp] theorem loseObservation_time (s : State) : (loseObservation s).time = s.time := rfl
@[simp] theorem loseObservation_buf (s : State) : (loseObservation s).buf = [] := rfl
@[simp] theorem loseObservation_tPrev (s : State) : (loseObservation s).tPrev = s.tPrev := rfl
@[simp] theorem loseObservation_tOpen (s : State) : (loseObservation s).tOpen = s.tOpen := rfl
@[simp] theorem loseObservation_mode (s : State) : (loseObservation s).mode = s.mode := rfl
@[simp] theorem loseObservation_lineOpen (s : State) : (loseObservation s).lineOpen = false := rfl
@[simp] theorem loseObservation_baud (s : State) : (loseObservation s).baud = s.baud := rfl
@[simp] theorem loseObservation_linecfg (s : State) : (loseObservation s).linecfg = s.linecfg := rfl
@[simp] theorem loseObservation_opts (s : State) : (loseObservation s).opts = s.opts := rfl
@[simp] theorem loseObservation_graceTicks (s : State) : (loseObservation s).graceTicks = s.graceTicks := rfl
@[simp] theorem loseObservation_scanWindow (s : State) : (loseObservation s).scanWindow = s.scanWindow := rfl
@[simp] theorem loseObservation_actBaud (s : State) : (loseObservation s).actBaud = s.actBaud := rfl
@[simp] theorem loseObservation_actLinecfg (s : State) : (loseObservation s).actLinecfg = s.actLinecfg := rfl
@[simp] theorem loseObservation_actDiscard (s : State) : (loseObservation s).actDiscard = s.actDiscard := rfl
@[simp] theorem loseObservation_actGraceEn (s : State) : (loseObservation s).actGraceEn = s.actGraceEn := rfl
@[simp] theorem loseObservation_actGraceTicks (s : State) : (loseObservation s).actGraceTicks = s.actGraceTicks := rfl
@[simp] theorem loseObservation_actWindow (s : State) : (loseObservation s).actWindow = s.actWindow := rfl
@[simp] theorem loseObservation_cfq (s : State) : (loseObservation s).cfq = s.cfq := rfl
@[simp] theorem loseObservation_dfq (s : State) : (loseObservation s).dfq = s.dfq := rfl
@[simp] theorem loseObservation_flags (s : State) : (loseObservation s).flags = s.flags := rfl
@[simp] theorem loseObservation_candIdx (s : State) : (loseObservation s).candIdx = s.candIdx := rfl
@[simp] theorem loseObservation_scanTotal (s : State) : (loseObservation s).scanTotal = s.scanTotal := rfl
@[simp] theorem loseObservation_scanValid (s : State) : (loseObservation s).scanValid = s.scanValid := rfl
@[simp] theorem loseObservation_cancelReq (s : State) : (loseObservation s).cancelReq = s.cancelReq := rfl
@[simp] theorem loseObservation_scanOutcome (s : State) : (loseObservation s).scanOutcome = s.scanOutcome := rfl
@[simp] theorem loseObservation_foundBaud (s : State) : (loseObservation s).foundBaud = s.foundBaud := rfl
@[simp] theorem loseObservation_foundLinecfg (s : State) : (loseObservation s).foundLinecfg = s.foundLinecfg := rfl
@[simp] theorem loseObservation_recCur (s : State) : (loseObservation s).recCur = s.recCur := rfl
@[simp] theorem loseObservation_actions (s : State) : (loseObservation s).actions = s.actions := rfl
@[simp] theorem loseObservation_rdata (s : State) : (loseObservation s).rdata = s.rdata := rfl

@[simp] theorem openCandidate_cfg (t : Stamp) (c : LinkConfig) (s : State) : (openCandidate t c s).cfg = s.cfg := rfl
@[simp] theorem openCandidate_inputs (t : Stamp) (c : LinkConfig) (s : State) :
    (openCandidate t c s).inputs = s.inputs := rfl
@[simp] theorem openCandidate_time (t : Stamp) (c : LinkConfig) (s : State) :
    (openCandidate t c s).time = s.time := rfl
@[simp] theorem openCandidate_buf (t : Stamp) (c : LinkConfig) (s : State) : (openCandidate t c s).buf = [] := rfl
@[simp] theorem openCandidate_tPrev (t : Stamp) (c : LinkConfig) (s : State) :
    (openCandidate t c s).tPrev = s.tPrev := rfl
@[simp] theorem openCandidate_tOpen (t : Stamp) (c : LinkConfig) (s : State) : (openCandidate t c s).tOpen = t := rfl
@[simp] theorem openCandidate_mode (t : Stamp) (c : LinkConfig) (s : State) :
    (openCandidate t c s).mode = s.mode := rfl
@[simp] theorem openCandidate_lineOpen (t : Stamp) (c : LinkConfig) (s : State) :
    (openCandidate t c s).lineOpen = true := rfl
@[simp] theorem openCandidate_baud (t : Stamp) (c : LinkConfig) (s : State) :
    (openCandidate t c s).baud = s.baud := rfl
@[simp] theorem openCandidate_linecfg (t : Stamp) (c : LinkConfig) (s : State) :
    (openCandidate t c s).linecfg = s.linecfg := rfl
@[simp] theorem openCandidate_opts (t : Stamp) (c : LinkConfig) (s : State) :
    (openCandidate t c s).opts = s.opts := rfl
@[simp] theorem openCandidate_graceTicks (t : Stamp) (c : LinkConfig) (s : State) :
    (openCandidate t c s).graceTicks = s.graceTicks := rfl
@[simp] theorem openCandidate_scanWindow (t : Stamp) (c : LinkConfig) (s : State) :
    (openCandidate t c s).scanWindow = s.scanWindow := rfl
@[simp] theorem openCandidate_actBaud (t : Stamp) (c : LinkConfig) (s : State) :
    (openCandidate t c s).actBaud = c.baud := rfl
@[simp] theorem openCandidate_actLinecfg (t : Stamp) (c : LinkConfig) (s : State) :
    (openCandidate t c s).actLinecfg = linecfgOf c := rfl
@[simp] theorem openCandidate_actDiscard (t : Stamp) (c : LinkConfig) (s : State) :
    (openCandidate t c s).actDiscard = s.actDiscard := rfl
@[simp] theorem openCandidate_actGraceEn (t : Stamp) (c : LinkConfig) (s : State) :
    (openCandidate t c s).actGraceEn = s.actGraceEn := rfl
@[simp] theorem openCandidate_actGraceTicks (t : Stamp) (c : LinkConfig) (s : State) :
    (openCandidate t c s).actGraceTicks = s.actGraceTicks := rfl
@[simp] theorem openCandidate_actWindow (t : Stamp) (c : LinkConfig) (s : State) :
    (openCandidate t c s).actWindow = s.actWindow := rfl
@[simp] theorem openCandidate_cfq (t : Stamp) (c : LinkConfig) (s : State) : (openCandidate t c s).cfq = s.cfq := rfl
@[simp] theorem openCandidate_dfq (t : Stamp) (c : LinkConfig) (s : State) : (openCandidate t c s).dfq = s.dfq := rfl
@[simp] theorem openCandidate_flags (t : Stamp) (c : LinkConfig) (s : State) :
    (openCandidate t c s).flags = s.flags := rfl
@[simp] theorem openCandidate_candIdx (t : Stamp) (c : LinkConfig) (s : State) :
    (openCandidate t c s).candIdx = s.candIdx := rfl
@[simp] theorem openCandidate_scanTotal (t : Stamp) (c : LinkConfig) (s : State) :
    (openCandidate t c s).scanTotal = 0 := rfl
@[simp] theorem openCandidate_scanValid (t : Stamp) (c : LinkConfig) (s : State) :
    (openCandidate t c s).scanValid = 0 := rfl
@[simp] theorem openCandidate_cancelReq (t : Stamp) (c : LinkConfig) (s : State) :
    (openCandidate t c s).cancelReq = s.cancelReq := rfl
@[simp] theorem openCandidate_scanOutcome (t : Stamp) (c : LinkConfig) (s : State) :
    (openCandidate t c s).scanOutcome = s.scanOutcome := rfl
@[simp] theorem openCandidate_foundBaud (t : Stamp) (c : LinkConfig) (s : State) :
    (openCandidate t c s).foundBaud = s.foundBaud := rfl
@[simp] theorem openCandidate_foundLinecfg (t : Stamp) (c : LinkConfig) (s : State) :
    (openCandidate t c s).foundLinecfg = s.foundLinecfg := rfl
@[simp] theorem openCandidate_recCur (t : Stamp) (c : LinkConfig) (s : State) :
    (openCandidate t c s).recCur = s.recCur := rfl
@[simp] theorem openCandidate_actions (t : Stamp) (c : LinkConfig) (s : State) :
    (openCandidate t c s).actions = s.actions ++ [.configure c] ++ [.openSource] ++ [.discard] := rfl
@[simp] theorem openCandidate_rdata (t : Stamp) (c : LinkConfig) (s : State) :
    (openCandidate t c s).rdata = s.rdata := rfl

@[simp] theorem hardReset_cfg (s : State) : (hardReset s).cfg = s.cfg := rfl
@[simp] theorem hardReset_inputs (s : State) : (hardReset s).inputs = s.inputs := rfl
@[simp] theorem hardReset_time (s : State) : (hardReset s).time = s.time := rfl
@[simp] theorem hardReset_buf (s : State) : (hardReset s).buf = [] := rfl
@[simp] theorem hardReset_tPrev (s : State) : (hardReset s).tPrev = 0 := rfl
@[simp] theorem hardReset_tOpen (s : State) : (hardReset s).tOpen = 0 := rfl
@[simp] theorem hardReset_mode (s : State) : (hardReset s).mode = .idle := rfl
@[simp] theorem hardReset_lineOpen (s : State) : (hardReset s).lineOpen = false := rfl
@[simp] theorem hardReset_baud (s : State) : (hardReset s).baud = 0 := rfl
@[simp] theorem hardReset_linecfg (s : State) : (hardReset s).linecfg = 1 := rfl
@[simp] theorem hardReset_opts (s : State) : (hardReset s).opts = 0 := rfl
@[simp] theorem hardReset_graceTicks (s : State) : (hardReset s).graceTicks = 0 := rfl
@[simp] theorem hardReset_scanWindow (s : State) :
    (hardReset s).scanWindow = BitVec.ofNat 32 (2 * s.cfg.tickHz) := rfl
@[simp] theorem hardReset_actBaud (s : State) : (hardReset s).actBaud = 0 := rfl
@[simp] theorem hardReset_actLinecfg (s : State) : (hardReset s).actLinecfg = 0 := rfl
@[simp] theorem hardReset_actDiscard (s : State) : (hardReset s).actDiscard = false := rfl
@[simp] theorem hardReset_actGraceEn (s : State) : (hardReset s).actGraceEn = false := rfl
@[simp] theorem hardReset_actGraceTicks (s : State) : (hardReset s).actGraceTicks = 0 := rfl
@[simp] theorem hardReset_actWindow (s : State) : (hardReset s).actWindow = 0 := rfl
@[simp] theorem hardReset_cfq (s : State) : (hardReset s).cfq = [] := rfl
@[simp] theorem hardReset_dfq (s : State) : (hardReset s).dfq = [] := rfl
@[simp] theorem hardReset_flags (s : State) : (hardReset s).flags = 0 := rfl
@[simp] theorem hardReset_candIdx (s : State) : (hardReset s).candIdx = 0 := rfl
@[simp] theorem hardReset_scanTotal (s : State) : (hardReset s).scanTotal = 0 := rfl
@[simp] theorem hardReset_scanValid (s : State) : (hardReset s).scanValid = 0 := rfl
@[simp] theorem hardReset_cancelReq (s : State) : (hardReset s).cancelReq = false := rfl
@[simp] theorem hardReset_scanOutcome (s : State) : (hardReset s).scanOutcome = .none := rfl
@[simp] theorem hardReset_foundBaud (s : State) : (hardReset s).foundBaud = 0 := rfl
@[simp] theorem hardReset_foundLinecfg (s : State) : (hardReset s).foundLinecfg = 0 := rfl
@[simp] theorem hardReset_recCur (s : State) : (hardReset s).recCur = 0 := rfl
@[simp] theorem hardReset_actions (s : State) : (hardReset s).actions = s.actions := rfl
@[simp] theorem hardReset_rdata (s : State) : (hardReset s).rdata = s.rdata := rfl

@[simp] theorem raise_malformedFrame (s : State) : raise .malformedFrame s = setFlag .short s := rfl
@[simp] theorem raise_crcMismatch (s : State) : raise .crcMismatch s = s := rfl
@[simp] theorem raise_decodeFault (s : State) : raise .decodeFault s = s := rfl
@[simp] theorem raise_sourceFault (s : State) : raise .sourceFault s = setFlag .srcTerm s := rfl
@[simp] theorem raise_exhaustion (s : State) : raise .exhaustion s = finish .exhausted s := rfl
@[simp] theorem raise_refusedCommand (s : State) : raise .refusedCommand s = refuse s := rfl

end Sys2Proof.Machine
end

