-- ==== Sys2Proof/Laws/Ops.lean ====
section
/-! SUPPORT. The shared operations of the Reassembler: for each, once, everything it can do. -/

namespace Sys2Proof.Machine

/-- A capacity test on an unbounded or a finite store. -/
theorem isFull_iff (d : Option Nat) (n : Nat) : isFull d n = true ↔ d = some n := by
  cases d with
  | none => simp [isFull]
  | some k => simp [isFull, eq_comm]

theorem hasRoom_iff (c : Option Nat) (n : Nat) : hasRoom c n = true ↔ ∀ k, c = some k → n < k := by
  cases c <;> simp [hasRoom]

/-- The frame-gap test in the spec's numbers (R82). -/
theorem isFrameGap_iff (g : Nat) (s : State) :
    isFrameGap g s = true ↔ 77 * s.cfg.tickHz ≤ 2 * g * s.actBaud.toNat := by
  unfold isFrameGap gapAtLeast
  exact decide_eq_true_iff

/-- The discard-gap test in the spec's numbers (R82). -/
theorem isDiscardGap_iff (g : Nat) (s : State) :
    isDiscardGap g s = true ↔
      33 * s.cfg.tickHz ≤ 2 * g * s.actBaud.toNat ∧ 2 * g * s.actBaud.toNat < 77 * s.cfg.tickHz := by
  unfold isDiscardGap
  rw [Bool.and_eq_true, Bool.not_eq_true', ← Bool.not_eq_true, isFrameGap_iff, not_le]
  exact and_congr_left' decide_eq_true_iff

/-- The gap tests read only the latched baud rate and TICK_HZ. -/
theorem isFrameGap_congr {s s' : State} (hc : s'.cfg = s.cfg) (hb : s'.actBaud = s.actBaud) (g : Nat) :
    isFrameGap g s' = isFrameGap g s := by
  simp [isFrameGap, gapAtLeast, hc, hb]

/-- `pushCandidate` pushes at the tail or sets `F_CFQ_DROP`. -/
theorem pushCandidate_cases (cf : CandidateFrame) (s : State) :
    (s.cfg.cfqDepth = some s.cfq.length ∧ pushCandidate cf s = setFlag .cfqDrop s) ∨
    (s.cfg.cfqDepth ≠ some s.cfq.length ∧ pushCandidate cf s = { s with cfq := s.cfq ++ [cf] }) := by
  unfold pushCandidate
  by_cases h : s.cfg.cfqDepth = some s.cfq.length
  · exact .inl ⟨h, if_pos ((isFull_iff _ _).2 h)⟩
  · exact .inr ⟨h, if_neg (fun hf => h ((isFull_iff _ _).1 hf))⟩

/-- A Segment is discarded, counted by the scanner, dropped, or pushed. -/
theorem deliver_cases (g : Segment) (s : State) :
    (g.bytes.length < 4 ∧ deliver g s = setFlag .short s) ∨
    (4 ≤ g.bytes.length ∧ s.mode = .scan ∧ deliver g s = scanCount g s) ∨
    (4 ≤ g.bytes.length ∧ s.mode ≠ .scan ∧
      deliver g s = pushCandidate ⟨g.bytes, g.ts, inGraceWindow g.ts s⟩ s) := by
  unfold deliver
  by_cases h : g.bytes.length < minFrame
  · exact .inl ⟨h, by simp [h]⟩
  · have h4 : 4 ≤ g.bytes.length := by simpa [minFrame] using h
    rw [if_neg h]
    cases hm : s.mode with
    | scan => exact .inr (.inl ⟨h4, rfl, rfl⟩)
    | idle => exact .inr (.inr ⟨h4, by simp, rfl⟩)
    | capture => exact .inr (.inr ⟨h4, by simp, rfl⟩)

/-- `deliver` writes CFQ, `FLAGS` and the scan counters only. -/
theorem deliver_shape (g : Segment) (s : State) :
    ∃ q f n v, deliver g s = { s with cfq := q, flags := f, scanTotal := n, scanValid := v } := by
  rcases deliver_cases g s with ⟨-, h⟩ | ⟨-, -, h⟩ | ⟨-, -, h⟩
  · exact ⟨_, _, _, _, h⟩
  · exact ⟨_, _, _, _, h⟩
  · rcases pushCandidate_cases ⟨g.bytes, g.ts, inGraceWindow g.ts s⟩ s with ⟨-, h'⟩ | ⟨-, h'⟩
    · exact ⟨_, _, _, _, h.trans h'⟩
    · exact ⟨_, _, _, _, h.trans h'⟩

/-- Cutting the Segment empties BUF and writes CFQ, `FLAGS` and the scan counters only. -/
theorem cutSegment_shape (s : State) :
    ∃ q f n v,
      cutSegment s = { s with buf := [], cfq := q, flags := f, scanTotal := n, scanValid := v } := by
  obtain ⟨q, f, n, v, h⟩ := deliver_shape (currentSegment s) { s with buf := [] }
  exact ⟨q, f, n, v, h⟩

/-- After a flush BUF is empty; nothing but CFQ, `FLAGS` and the scan counters can have changed besides. -/
theorem flush_shape (s : State) :
    ∃ q f n v, flush s = { s with buf := [], cfq := q, flags := f, scanTotal := n, scanValid := v } := by
  unfold flush
  split
  next h => exact ⟨s.cfq, s.flags, s.scanTotal, s.scanValid, by rw [← h]⟩
  next h => exact cutSegment_shape s

/-- The three things an arriving byte's gap can do to BUF. -/
theorem boundary_cases (t : Stamp) (s : State) :
    (s.buf ≠ [] ∧ isFrameGap (elapsed t s.tPrev) s = true ∧ boundary t s = cutSegment s) ∨
    (s.buf ≠ [] ∧ s.actDiscard = true ∧ isDiscardGap (elapsed t s.tPrev) s = true ∧
      boundary t s = { s with buf := [] }) ∨
    ((s.buf = [] ∨ isFrameGap (elapsed t s.tPrev) s = false) ∧ boundary t s = s) := by
  unfold boundary
  by_cases hb : s.buf = []
  · exact .inr (.inr ⟨.inl hb, if_pos hb⟩)
  · rw [if_neg hb]
    by_cases hg : isFrameGap (elapsed t s.tPrev) s = true
    · exact .inl ⟨hb, hg, if_pos hg⟩
    · rw [if_neg hg]
      by_cases hd : (s.actDiscard && isDiscardGap (elapsed t s.tPrev) s) = true
      · exact .inr (.inl ⟨hb, (Bool.and_eq_true _ _ ▸ hd).1, (Bool.and_eq_true _ _ ▸ hd).2, if_pos hd⟩)
      · exact .inr (.inr ⟨.inr (by simpa using hg), if_neg hd⟩)

/-- The boundary handling writes BUF, CFQ, `FLAGS` and the scan counters only. -/
theorem boundary_shape (t : Stamp) (s : State) :
    ∃ b q f n v,
      boundary t s = { s with buf := b, cfq := q, flags := f, scanTotal := n, scanValid := v } := by
  rcases boundary_cases t s with ⟨-, -, h⟩ | ⟨-, -, -, h⟩ | ⟨-, h⟩
  · obtain ⟨q, f, n, v, h'⟩ := cutSegment_shape s
    exact ⟨[], q, f, n, v, h.trans h'⟩
  · exact ⟨[], s.cfq, s.flags, s.scanTotal, s.scanValid, h⟩
  · exact ⟨s.buf, s.cfq, s.flags, s.scanTotal, s.scanValid, h⟩

/-- A byte is appended or dropped with `F_BUF_OVF`. -/
theorem storeByte_cases (b : Byte) (s : State) :
    ((∀ k, s.cfg.bufCap = some k → s.buf.length < k) ∧ storeByte b s = { s with buf := s.buf ++ [b] }) ∨
    ((∃ k, s.cfg.bufCap = some k ∧ k ≤ s.buf.length) ∧ storeByte b s = setFlag .bufOvf s) := by
  unfold storeByte
  by_cases h : hasRoom s.cfg.bufCap s.buf.length = true
  · exact .inl ⟨(hasRoom_iff _ _).1 h, if_pos h⟩
  · refine .inr ⟨?_, if_neg h⟩
    have h' := mt (hasRoom_iff _ _).2 h
    push Not at h'
    exact h'

/-- `Reassemble` writes BUF, `T_PREV`, CFQ, `FLAGS` and the scan counters only. -/
theorem reassemble_shape (t : Stamp) (b : Byte) (s : State) :
    ∃ u q f n v, reassemble t b s =
      { s with buf := u, tPrev := t, cfq := q, flags := f, scanTotal := n, scanValid := v } := by
  obtain ⟨u, q, f, n, v, h⟩ := boundary_shape t s
  unfold reassemble
  rw [h]
  rcases storeByte_cases b { s with buf := u, cfq := q, flags := f, scanTotal := n, scanValid := v } with
    ⟨-, h'⟩ | ⟨-, h'⟩
  · rw [h']; exact ⟨_, _, _, _, _, rfl⟩
  · rw [h']; exact ⟨_, _, _, _, _, rfl⟩

end Sys2Proof.Machine
end

