-- ==== Sys2Proof/Laws/Decoder.lean ====
section
/-! SUPPORT. The decode stage and the records it makes: for each, once, everything it can do. -/

namespace Sys2Proof.Machine

/-- A DecodedFrame is filtered, dropped, or pushed at the tail (R189 to R191). -/
theorem decodeStage_cases (g : Bool) (d : DecodedFrame) (s : State) :
    (g = true ∧ d.crcValid = false ∧ decodeStage g d s = s) ∨
    ((g = false ∨ d.crcValid = true) ∧ s.dfq.length = s.cfg.dfqDepth ∧
      decodeStage g d s = setFlag .dfqDrop s) ∨
    ((g = false ∨ d.crcValid = true) ∧ s.dfq.length ≠ s.cfg.dfqDepth ∧
      decodeStage g d s = { s with dfq := s.dfq ++ [d] }) := by
  unfold decodeStage
  by_cases hf : (g && !d.crcValid) = true
  · refine .inl ⟨?_, ?_, if_pos hf⟩ <;> simp_all
  · have hg : g = false ∨ d.crcValid = true := by cases g <;> simp_all
    rw [if_neg hf]
    by_cases h : s.dfq.length = s.cfg.dfqDepth
    · exact .inr (.inl ⟨hg, h, if_pos h⟩)
    · exact .inr (.inr ⟨hg, h, if_neg h⟩)

/-- `decodeStage` writes DFQ and `FLAGS` only. -/
theorem decodeStage_shape (g : Bool) (d : DecodedFrame) (s : State) :
    ∃ q f, decodeStage g d s = { s with dfq := q, flags := f } := by
  rcases decodeStage_cases g d s with ⟨-, -, h⟩ | ⟨-, -, h⟩ | ⟨-, -, h⟩
  · exact ⟨s.dfq, s.flags, h⟩
  · exact ⟨_, _, h⟩
  · exact ⟨_, _, h⟩

/-- `DECODE_STEP` is not enabled, or consumes the head of CFQ and at most pushes its record. -/
theorem execDecodeStep_cases (s : State) :
    (s.cfq = [] ∧ execDecodeStep s = .refused .decodeNotEnabled) ∨
    (∃ cf rest, s.cfq = cf :: rest ∧ RtuFrame.parse cf.bytes = none ∧
      execDecodeStep s = .next { s with cfq := rest }) ∨
    (∃ cf rest f, s.cfq = cf :: rest ∧ RtuFrame.parse cf.bytes = some f ∧
      execDecodeStep s = .next (decodeStage cf.inGrace
        (decodeRecord ⟨cf.ts, cf.inGrace, f.address, f.crcLo, f.crcHi⟩ f.function f.payload)
        { s with cfq := rest })) := by
  unfold execDecodeStep
  cases h : s.cfq with
  | nil => exact .inl ⟨rfl, rfl⟩
  | cons cf rest =>
    cases hp : RtuFrame.parse cf.bytes with
    | none => exact .inr (.inl ⟨cf, rest, rfl, hp, by simp [hp]⟩)
    | some f => exact .inr (.inr ⟨cf, rest, f, rfl, hp, by simp [hp]⟩)

/-- Every record is made by one of the eight layouts of R126. -/
theorem decodeRecord_cases (h : FrameHead) (fn : Byte) (p : List Byte) :
    (isException fn = true ∧ decodeRecord h fn p = exceptionFrame (header h fn p)) ∨
    (isException fn = false ∧ (baseFunction fn).toNat ∈ [1, 2, 3, 4] ∧
      decodeRecord h fn p = readFrame (header h fn p)) ∨
    (isException fn = false ∧ (baseFunction fn).toNat ∈ [5, 6] ∧
      decodeRecord h fn p = writeSingle (header h fn p)) ∨
    (isException fn = false ∧ (baseFunction fn).toNat ∈ [15, 16] ∧
      decodeRecord h fn p = writeMulti (header h fn p)) ∨
    (isException fn = false ∧ (baseFunction fn).toNat ∉ namedFunctions ∧
      decodeRecord h fn p = otherFrame (header h fn p)) := by
  unfold decodeRecord
  cases he : isException fn with
  | true => exact .inl ⟨rfl, by simp [header, he]⟩
  | false =>
    have he' : (header h fn p).exception = false := he
    simp only [he', Bool.false_eq_true, if_false]
    have hb : (header h fn p).baseFunction = baseFunction fn := rfl
    rw [hb]
    generalize (baseFunction fn).toNat = n
    split <;> simp_all [namedFunctions]

end Sys2Proof.Machine
end

