-- ==== Sys2Proof/Laws/Encoding.lean ====
section
/-! SUPPORT. The frame layout and the register map read both ways. -/

namespace Sys2Proof.Machine

@[simp] theorem RtuFrame.length_bytes (f : RtuFrame) : f.bytes.length = f.payload.length + 4 := by
  simp [RtuFrame.bytes]

/-- A sequence is a frame exactly when it has 4 bytes or more (R61, R110). -/
theorem RtuFrame.parse_eq_none_iff (l : List Byte) : RtuFrame.parse l = none ↔ l.length < 4 := by
  unfold RtuFrame.parse minFrame
  split <;> simp_all

/-- Reading back the bytes of a frame. -/
@[simp] theorem RtuFrame.parse_bytes (f : RtuFrame) : RtuFrame.parse f.bytes = some f := by
  have hlen : f.bytes.length = f.payload.length + 4 := f.length_bytes
  unfold RtuFrame.parse
  rw [if_neg (by rw [hlen, minFrame]; omega)]
  congr 1
  cases f with
  | mk a fn p lo hi =>
    simp only [RtuFrame.bytes, byteAt, RtuFrame.mk.injEq] at hlen ⊢
    rw [hlen]
    refine ⟨by simp, by simp, by simp, ?_, ?_⟩
    · simp [List.getD]
    · simp [List.getD]

/-- The bytes of what was read. -/
theorem RtuFrame.bytes_of_parse {l : List Byte} {f : RtuFrame} (h : RtuFrame.parse l = some f) :
    f.bytes = l := by
  have h4 : ¬ l.length < minFrame := fun hlt => by simp [RtuFrame.parse, hlt] at h
  rw [RtuFrame.parse, if_neg h4] at h
  simp only [minFrame, not_lt] at h4
  obtain rfl := Option.some.inj h
  obtain ⟨a, fn, rest, rfl⟩ : ∃ a fn rest, l = a :: fn :: rest := by
    match l, h4 with
    | a :: fn :: rest, _ => exact ⟨a, fn, rest, rfl⟩
  obtain ⟨p, lo, hi, rfl⟩ : ∃ p lo hi, rest = p ++ [lo, hi] := by
    have h2 : 2 ≤ rest.length := by simp at h4; omega
    refine ⟨rest.take (rest.length - 2), rest[rest.length - 2], rest[rest.length - 1], ?_⟩
    have hd : rest.drop (rest.length - 2) = [rest[rest.length - 2], rest[rest.length - 1]] := by
      rw [List.drop_eq_getElem_cons (by omega)]
      congr 1
      rw [List.drop_eq_getElem_cons (by omega)]
      congr 1
      · congr 1; omega
      · rw [List.drop_eq_nil_iff]; omega
    rw [← hd, List.take_append_drop]
  have hlen : (a :: fn :: (p ++ [lo, hi])).length = p.length + 4 := by simp
  simp only [RtuFrame.bytes, byteAt, hlen]
  simp [List.getD]

@[simp] theorem baseFunction_exceptionByte (b : BitVec 7) : baseFunction (exceptionByte b) = b := by
  revert b; decide +kernel

@[simp] theorem isException_exceptionByte (b : BitVec 7) : isException (exceptionByte b) = true := by
  revert b; decide +kernel

@[simp] theorem baseFunction_plainByte (b : BitVec 7) : baseFunction (plainByte b) = b := by
  revert b; decide +kernel

@[simp] theorem isException_plainByte (b : BitVec 7) : isException (plainByte b) = false := by
  revert b; decide +kernel

@[simp] theorem toNat_plainByte (b : BitVec 7) : (plainByte b).toNat = b.toNat := by
  revert b; decide +kernel

/-- A function byte is its exception bit and its base function. -/
theorem functionByte_eq (fn : Byte) :
    fn = if isException fn then exceptionByte (baseFunction fn) else plainByte (baseFunction fn) := by
  revert fn; decide +kernel

@[simp] theorem regAt_regOffset (r : Reg) : regAt (regOffset r) = some r := by cases r <;> rfl

theorem regOffset_mod_four (r : Reg) : regOffset r % 4 = 0 := by cases r <;> rfl

theorem regOffset_le (r : Reg) : regOffset r ≤ 0x68 := by cases r <;> decide

/-- The map of R46 read the other way. -/
theorem regOffset_of_regAt {n : Nat} {r : Reg} (h : regAt n = some r) : regOffset r = n := by
  unfold regAt at h
  split at h <;> first | (cases h; rfl) | simp at h

/-- An access to a register of the map is lawful (R47). -/
@[simp] theorem decodeAccess_regOffset (r : Reg) : decodeAccess (regOffset r) 32 = .ok r := by
  cases r <;> rfl

/-- Only an aligned 32-bit access to a register of the map is lawful (R47). -/
theorem decodeAccess_ok {offset bits : Nat} {r : Reg} (h : decodeAccess offset bits = .ok r) :
    bits = 32 ∧ regOffset r = offset := by
  unfold decodeAccess at h
  by_cases hb : bits = 32
  · rw [if_neg (not_not.2 hb)] at h
    split at h
    · simp at h
    · cases hr : regAt offset with
      | none => simp [hr] at h
      | some r' =>
        simp only [hr, Except.ok.injEq] at h
        subst h
        exact ⟨hb, regOffset_of_regAt hr⟩
  · simp [hb] at h

/-- An unlawful access is never the reset input. -/
theorem decodeAccess_ne_resetInput {offset bits : Nat} {e : DecodeError}
    (h : decodeAccess offset bits = .error e) : e ≠ .resetInput := by
  unfold decodeAccess at h
  repeat' split at h
  all_goals first | (cases h; simp) | simp at h

/-- Only the reset input is decoded as such. -/
theorem decodeInput_resetInput {x : Input} (h : decodeInput x = .error .resetInput) : x = .hardReset := by
  cases x with
  | hardReset => rfl
  | write t off bits v =>
    cases ha : decodeAccess off bits with
    | error e =>
      simp only [decodeInput, ha, Except.error.injEq] at h
      exact absurd h (decodeAccess_ne_resetInput ha)
    | ok r => cases r <;> simp [decodeInput, ha] at h
  | read t off bits =>
    cases ha : decodeAccess off bits with
    | error e =>
      simp only [decodeInput, ha, Except.error.injEq] at h
      exact absurd h (decodeAccess_ne_resetInput ha)
    | ok r => simp [decodeInput, ha] at h
  | _ => simp [decodeInput] at h

/-- The CRC is carried along a message byte by byte (R101). -/
theorem crc16_append (m : List Byte) (b : Byte) : crc16 (m ++ [b]) = crcStep (crc16 m) b := by
  simp [crc16]

end Sys2Proof.Machine
end

