-- ==== Sys2Proof/Laws/Scanner.lean ====
section
/-! SUPPORT. The scanner's procedures and the commands: for each, once, everything it can do. -/

namespace Sys2Proof.Machine

/-- The acceptance test in the spec's numbers (R171). -/
theorem ratioAccepted_iff (s : State) :
    ratioAccepted s = true ↔ 0 < s.scanTotal ∧ 4 * s.scanTotal ≤ 5 * s.scanValid := by
  unfold ratioAccepted
  rw [Bool.and_eq_true, decide_eq_true_iff]
  exact and_congr_right' decide_eq_true_iff

/-- The opening of a candidate, as one update (R164). -/
theorem openCandidate_eq (t : Stamp) (c : LinkConfig) (s : State) :
    openCandidate t c s =
      { s with
        actBaud := c.baud
        actLinecfg := linecfgOf c
        actions := s.actions ++ [.configure c, .openSource, .discard]
        lineOpen := true
        buf := []
        scanTotal := 0
        scanValid := 0
        tOpen := t } := by
  simp [openCandidate, openSource, emit]

/-- `BeginCandidate` opens the candidate at `CAND_IDX` or ends the scan EXHAUSTED. -/
theorem beginCandidate_cases (t : Stamp) (s : State) :
    (s.cfg.scanCands.length ≤ s.candIdx ∧ beginCandidate t s = finish .exhausted s) ∨
    (∃ c, s.cfg.scanCands[s.candIdx]? = some c ∧ beginCandidate t s = openCandidate t c s) := by
  unfold beginCandidate
  cases h : s.cfg.scanCands[s.candIdx]? with
  | none => exact .inl ⟨List.getElem?_eq_none_iff.1 h, rfl⟩
  | some c => exact .inr ⟨c, rfl, rfl⟩

/-- `Evaluate` accepts, or begins the next candidate. -/
theorem evaluate_cases (t : Stamp) (s : State) :
    (ratioAccepted s = true ∧
      evaluate t s = finish .accepted { s with foundBaud := s.actBaud, foundLinecfg := s.actLinecfg }) ∨
    (ratioAccepted s = false ∧ evaluate t s = beginCandidate t { s with candIdx := s.candIdx + 1 }) := by
  unfold evaluate
  cases h : ratioAccepted s
  · exact .inr ⟨rfl, by simp⟩
  · exact .inl ⟨rfl, by simp⟩

/-- The window test in the spec's numbers (R168). -/
theorem windowOver_iff (t : Stamp) (s : State) :
    windowOver t s = true ↔ s.actWindow.toNat ≤ t.toNat - s.tOpen.toNat := by
  unfold windowOver elapsed
  exact decide_eq_true_iff

/-- What a scanner event does: the pending cancel first, then the end of the observation, then the byte (R167). -/
theorem scanEvent_cases (t : Stamp) (ev : LineEvent) (s : State) :
    (s.cancelReq = true ∧ ev = .ended ∧ scanEvent t ev s = finish .cancelled (loseObservation s)) ∨
    (s.cancelReq = true ∧ ev ≠ .ended ∧ scanEvent t ev s = finish .cancelled (closeObservation s)) ∨
    (s.cancelReq = false ∧ ev = .ended ∧ scanEvent t ev s = evaluate t (loseObservation s)) ∨
    (s.cancelReq = false ∧ ev ≠ .ended ∧ windowOver t s = true ∧
      scanEvent t ev s = evaluate t (closeObservation s)) ∨
    (s.cancelReq = false ∧ windowOver t s = false ∧ ∃ b, ev = .byte b ∧ scanEvent t ev s = reassemble t b s) ∨
    (s.cancelReq = false ∧ windowOver t s = false ∧ ev = .tick ∧ scanEvent t ev s = s) := by
  unfold scanEvent
  cases hc : s.cancelReq with
  | true => cases ev <;> simp [endObservation]
  | false => cases ev <;> cases hw : windowOver t s <;> simp

/-- `OPEN` is refused, or latches the configuration and opens the line (R205). -/
theorem openCommand_cases (t : Stamp) (s : State) :
    ((s.mode ≠ .idle ∨ s.baud = 0 ∨ linecfgParity s.linecfg = none) ∧ openCommand t s = refuse s) ∨
    (s.mode = .idle ∧ s.baud ≠ 0 ∧ ∃ p, linecfgParity s.linecfg = some p ∧
      openCommand t s =
        { s with
          actBaud := s.baud
          actLinecfg := s.linecfg
          actDiscard := optDiscard s.opts
          actGraceEn := optGrace s.opts
          actGraceTicks := s.graceTicks
          actions := s.actions
            ++ [.configure ⟨s.baud, linecfgDataBits s.linecfg, p, linecfgStopBits s.linecfg⟩] ++ [.openSource]
          lineOpen := true
          tOpen := t
          mode := .capture }) := by
  unfold openCommand linkOfRegisters
  cases hp : linecfgParity s.linecfg with
  | none => exact .inl ⟨.inr (.inr rfl), rfl⟩
  | some p =>
    by_cases h : s.mode ≠ .idle ∨ s.baud = 0
    · exact .inl ⟨h.elim .inl (fun hb => .inr (.inl hb)), if_pos h⟩
    · have h' := h
      push Not at h'
      exact .inr ⟨h'.1, h'.2, p, rfl, by simp only [Option.map_some, if_neg h]; rfl⟩

/-- `CLOSE` is refused, or flushes and closes (R206). -/
theorem closeCommand_cases (s : State) :
    (s.mode ≠ .capture ∧ closeCommand s = refuse s) ∨
    (s.mode = .capture ∧ closeCommand s = { closeSource (flush s) with mode := .idle }) := by
  unfold closeCommand
  by_cases h : s.mode = .capture
  · exact .inr ⟨h, if_neg (not_not.2 h)⟩
  · exact .inl ⟨h, if_pos h⟩

/-- `SCAN_START` is refused, or begins candidate 0 (R163). -/
theorem scanStartCommand_cases (t : Stamp) (s : State) :
    ((s.mode ≠ .idle ∨ s.scanWindow = 0) ∧ scanStartCommand t s = refuse s) ∨
    (s.mode = .idle ∧ s.scanWindow ≠ 0 ∧ scanStartCommand t s =
      beginCandidate t
        { s with
          mode := .scan, candIdx := 0, cancelReq := false, scanOutcome := .none
          actWindow := s.scanWindow, actDiscard := optDiscard s.opts, actGraceEn := false }) := by
  unfold scanStartCommand
  by_cases h : s.mode ≠ .idle ∨ s.scanWindow = 0
  · exact .inl ⟨h, if_pos h⟩
  · have h' := h
    push Not at h'
    exact .inr ⟨h'.1, h'.2, if_neg h⟩

/-- `SCAN_CANCEL` sets the flag or is refused (R173). -/
theorem scanCancelCommand_cases (s : State) :
    (s.mode = .scan ∧ scanCancelCommand s = { s with cancelReq := true }) ∨
    (s.mode ≠ .scan ∧ scanCancelCommand s = refuse s) := by
  unfold scanCancelCommand
  by_cases h : s.mode = .scan
  · exact .inl ⟨h, if_pos h⟩
  · exact .inr ⟨h, if_neg h⟩

/-- `REC_POP` is refused, or removes the head and rewinds the cursor (R207). -/
theorem recPopCommand_cases (s : State) :
    (s.dfq = [] ∧ recPopCommand s = refuse s) ∨
    (∃ d rest, s.dfq = d :: rest ∧ recPopCommand s = { s with dfq := rest, recCur := 0 }) := by
  unfold recPopCommand
  cases h : s.dfq with
  | nil => exact .inl ⟨rfl, rfl⟩
  | cons d rest => exact .inr ⟨d, rest, rfl, rfl⟩

end Sys2Proof.Machine
end

