-- ==== Sys2Proof/Laws/Line.lean ====
section
/-! SUPPORT. The operations in each mode, and the small helpers of Operands, Crc and Registers in the spec's numbers. -/

namespace Sys2Proof.Machine

/-- `RXBYTE` in CAPTURE is the Reassembler's (R83). -/
theorem exec_rxbyte_capture {s : State} (h : s.mode = .capture) (t : Stamp) (b : Byte) :
    exec (.rxbyte t b) s = .next (reassemble t b s) := by
  simp only [exec, execRxbyte, h]

/-- `RXBYTE` in SCAN is the scanner's (R167). -/
theorem exec_rxbyte_scan {s : State} (h : s.mode = .scan) (t : Stamp) (b : Byte) :
    exec (.rxbyte t b) s = .next (scanEvent t (.byte b) s) := by
  simp only [exec, execRxbyte, h]

/-- `RXEND` in CAPTURE flushes and ends the session (R89). -/
theorem exec_rxend_capture {s : State} (h : s.mode = .capture) (t : Stamp) :
    exec (.rxend t) s = .next (captureEnded s) := by
  simp only [exec, execRxend, h]

/-- `RXEND` in SCAN is the scanner's (R170). -/
theorem exec_rxend_scan {s : State} (h : s.mode = .scan) (t : Stamp) :
    exec (.rxend t) s = .next (scanEvent t .ended s) := by
  simp only [exec, execRxend, h]

/-- `TICK` in SCAN is the scanner's (R168). -/
theorem exec_tick_scan {s : State} (h : s.mode = .scan) (t : Stamp) :
    exec (.tick t) s = .next (scanEvent t .tick s) := by
  simp only [exec, execTick, h]

/-- The command instruction of a value and the command of a written value are one. -/
theorem exec_commandInstr (t : Stamp) (v : Word) (s : State) :
    exec (commandInstr t v) s = .next (runCommand t v s) := by
  unfold commandInstr runCommand
  split <;> first | rfl | (simp_all; rfl)

/-- A byte's two parts, when what the boundary handling and the storing leave is known. -/
theorem reassemble_eq {s u v : State} {t : Stamp} {b : Byte} (hb : boundary t s = u) (hs : storeByte b u = v) :
    reassemble t b s = { v with tPrev := t } := by
  unfold reassemble
  rw [hb, hs]

/-- The 7-bit base function is bits 6:0 (R66). -/
theorem baseFunction_eq_setWidth (fn : Byte) : baseFunction fn = fn.setWidth 7 := by
  revert fn; decide +kernel

/-- The exception flag is bit 7 (R66). -/
theorem isException_eq_getLsbD (fn : Byte) : isException fn = fn.getLsbD 7 := by
  revert fn; decide +kernel

theorem exceptionByte_eq_or (b : BitVec 7) : exceptionByte b = 0x80#8 ||| b.setWidth 8 := by
  revert b; decide +kernel

theorem plainByte_eq_setWidth (b : BitVec 7) : plainByte b = b.setWidth 8 := by
  revert b; decide +kernel

/-- `hi × 256 + lo` (R43, R66). -/
theorem toNat_joinBytes (hi lo : Byte) : (joinBytes hi lo).toNat = hi.toNat * 256 + lo.toNat := by
  have h := Nat.shiftLeft_add_eq_or_of_lt (a := hi.toNat) lo.isLt
  rw [Nat.shiftLeft_eq] at h
  show (hi ++ lo).toNat = _
  rw [BitVec.toNat_append, Nat.shiftLeft_eq]
  exact h.symm

/-- The stored bits of a LinkConfig register are bits 3:0 (R71). -/
theorem and_linecfgMask (w : Word) : w &&& linecfgMask = (w.extractLsb' 0 4).setWidth 32 := by
  have hm : ∀ i < 32, linecfgMask.getLsbD i = decide (i < 4) := by decide
  apply BitVec.eq_of_getLsbD_eq
  intro i hi
  rw [BitVec.getLsbD_and, hm i hi, BitVec.getLsbD_setWidth, BitVec.getLsbD_extractLsb']
  simp [hi, Bool.and_comm]

/-- The stored bits of `OPTS` are bits 1:0 (R71). -/
theorem and_optsMask (w : Word) : w &&& optsMask = (w.extractLsb' 0 2).setWidth 32 := by
  have hm : ∀ i < 32, optsMask.getLsbD i = decide (i < 2) := by decide
  apply BitVec.eq_of_getLsbD_eq
  intro i hi
  rw [BitVec.getLsbD_and, hm i hi, BitVec.getLsbD_setWidth, BitVec.getLsbD_extractLsb']
  simp [hi, Bool.and_comm]

/-- A counter that fits its register reads as itself (R24). -/
theorem counterWord_toNat (r : Reg) {n : Nat} (h : n < 2 ^ 32) : (counterWord r n).toNat = n := by
  unfold counterWord
  rw [if_pos h]
  simp only [BitVec.toNat_ofNat]
  omega

end Sys2Proof.Machine
end

