-- ==== Sys2Proof/Laws/PerInstr.lean ====
section
/-! SUPPORT. Statements made once per instruction. EncodesLawfully: the code of a well-formed operation is one the spec's
formats admit. -/

namespace Sys2Proof.Laws.EncodesLawfully

/-- A code the formats admit: a frame of 4 bytes or more (R61), an aligned 32-bit access below 0x6C (R47), a LinkConfig
of positive baud rate (R201). -/
def lawful : Code → Bool
  | .frame cf => decide (4 ≤ cf.bytes.length)
  | .input (.write _ offset bits _) => decide (bits = 32 ∧ offset % 4 = 0 ∧ offset ≤ 0x68)
  | .input (.read _ offset bits) => decide (bits = 32 ∧ offset % 4 = 0 ∧ offset ≤ 0x68)
  | .action (.configure c) => decide (c.baud ≠ 0)
  | _ => true

theorem lawful_encodeFrame (h : FrameHead) (fn : Byte) (p : List Byte) : lawful (encodeFrame h fn p) = true := by
  simp [lawful, encodeFrame]

theorem lawful_encodeWrite (t : Stamp) (r : Reg) (v : Word) : lawful (encodeWrite t r v) = true := by
  simp [lawful, encodeWrite, Machine.regOffset_mod_four, Machine.regOffset_le]

def Statement (i : Instr) : Prop := wellFormed i = true → lawful (encode i) = true

theorem rd01Rsp (h : FrameHead) (p : List Byte) : Statement (.rd01Rsp h p) := fun _ => lawful_encodeFrame _ _ _
theorem rd01Req (h : FrameHead) (p : List Byte) : Statement (.rd01Req h p) := fun _ => lawful_encodeFrame _ _ _
theorem rd02Rsp (h : FrameHead) (p : List Byte) : Statement (.rd02Rsp h p) := fun _ => lawful_encodeFrame _ _ _
theorem rd02Req (h : FrameHead) (p : List Byte) : Statement (.rd02Req h p) := fun _ => lawful_encodeFrame _ _ _
theorem rd03Rsp (h : FrameHead) (p : List Byte) : Statement (.rd03Rsp h p) := fun _ => lawful_encodeFrame _ _ _
theorem rd03Req (h : FrameHead) (p : List Byte) : Statement (.rd03Req h p) := fun _ => lawful_encodeFrame _ _ _
theorem rd04Rsp (h : FrameHead) (p : List Byte) : Statement (.rd04Rsp h p) := fun _ => lawful_encodeFrame _ _ _
theorem rd04Req (h : FrameHead) (p : List Byte) : Statement (.rd04Req h p) := fun _ => lawful_encodeFrame _ _ _
theorem ws05 (h : FrameHead) (p : List Byte) : Statement (.ws05 h p) := fun _ => lawful_encodeFrame _ _ _
theorem ws06 (h : FrameHead) (p : List Byte) : Statement (.ws06 h p) := fun _ => lawful_encodeFrame _ _ _
theorem wm0fRsp (h : FrameHead) (p : List Byte) : Statement (.wm0fRsp h p) := fun _ => lawful_encodeFrame _ _ _
theorem wm0fReq (h : FrameHead) (p : List Byte) : Statement (.wm0fReq h p) := fun _ => lawful_encodeFrame _ _ _
theorem wm0fUnk (h : FrameHead) (p : List Byte) : Statement (.wm0fUnk h p) := fun _ => lawful_encodeFrame _ _ _
theorem wm10Rsp (h : FrameHead) (p : List Byte) : Statement (.wm10Rsp h p) := fun _ => lawful_encodeFrame _ _ _
theorem wm10Req (h : FrameHead) (p : List Byte) : Statement (.wm10Req h p) := fun _ => lawful_encodeFrame _ _ _
theorem wm10Unk (h : FrameHead) (p : List Byte) : Statement (.wm10Unk h p) := fun _ => lawful_encodeFrame _ _ _
theorem exc (h : FrameHead) (b : BitVec 7) (p : List Byte) : Statement (.exc h b p) :=
  fun _ => lawful_encodeFrame _ _ _
theorem other (h : FrameHead) (b : BitVec 7) (p : List Byte) : Statement (.other h b p) :=
  fun _ => lawful_encodeFrame _ _ _
theorem openCmd (t : Stamp) : Statement (.openCmd t) := fun _ => lawful_encodeWrite _ _ _
theorem closeCmd (t : Stamp) : Statement (.closeCmd t) := fun _ => lawful_encodeWrite _ _ _
theorem scanStart (t : Stamp) : Statement (.scanStart t) := fun _ => lawful_encodeWrite _ _ _
theorem scanCancel (t : Stamp) : Statement (.scanCancel t) := fun _ => lawful_encodeWrite _ _ _
theorem recPop (t : Stamp) : Statement (.recPop t) := fun _ => lawful_encodeWrite _ _ _
theorem softReset (t : Stamp) : Statement (.softReset t) := fun _ => lawful_encodeWrite _ _ _
theorem cmdIllegal (t : Stamp) (v : Word) : Statement (.cmdIllegal t v) := fun _ => lawful_encodeWrite _ _ _
theorem rxbyte (t : Stamp) (b : Byte) : Statement (.rxbyte t b) := fun _ => rfl
theorem rxend (t : Stamp) : Statement (.rxend t) := fun _ => rfl
theorem tick (t : Stamp) : Statement (.tick t) := fun _ => rfl
theorem decodeStep : Statement .decodeStep := fun _ => rfl
theorem wr (t : Stamp) (r : Reg) (v : Word) : Statement (.wr t r v) := fun _ => lawful_encodeWrite _ _ _
theorem rd (t : Stamp) (r : Reg) : Statement (.rd t r) := fun _ => by
  simp [lawful, encode, Machine.regOffset_mod_four, Machine.regOffset_le]
theorem srcConfigure (c : LinkConfig) : Statement (.srcConfigure c) := fun h => by
  simpa [lawful, encode, wellFormed] using h
theorem srcOpen : Statement .srcOpen := fun _ => rfl
theorem srcClose : Statement .srcClose := fun _ => rfl
theorem srcDiscard : Statement .srcDiscard := fun _ => rfl

end Sys2Proof.Laws.EncodesLawfully
end

