-- ==== Sys2Proof/Laws/Step.lean ====
section
/-! SUPPORT. The step: for its parts, once, everything they can do. -/

namespace Sys2Proof.Machine

/-- A step that answers a next state let time pass, was a hardware reset, or ran one operation: of the input that
arrived, in the state without it and at its time, or of the decode stage on its own. -/
theorem step_next_cases {s s' : State} (h : step s = .next s') :
    (s.inputs = [] ∧ s.cfq = [] ∧ s.time.toNat + 1 < 2 ^ 64 ∧ s' = { s with time := s.time + 1 }) ∨
    (s.inputs = [] ∧ s.cfq ≠ [] ∧ exec .decodeStep s = .next s') ∨
    (∃ rest, s.inputs = .hardReset :: rest ∧ s' = hardReset { s with inputs := rest }) ∨
    (∃ x rest now i, s.inputs = x :: rest ∧ timeAfter x s.time = some now ∧ decodeInput x = .ok i ∧
      exec i { s with inputs := rest, time := now } = .next s') := by
  unfold step at h
  obtain hin | ⟨x, rest, hin⟩ : s.inputs = [] ∨ ∃ x rest, s.inputs = x :: rest := by
    cases s.inputs with
    | nil => exact .inl rfl
    | cons x rest => exact .inr ⟨x, rest, rfl⟩
  · have hf : fetch s = if s.cfq = [] then .settled (passTime s) else .run .decodeStep s := by
      unfold fetch; rw [hin]
    rw [hf] at h
    by_cases hq : s.cfq = []
    · rw [if_pos hq] at h
      unfold passTime at h
      by_cases hlt : s.time.toNat + 1 < 2 ^ 64
      · rw [if_pos hlt] at h
        exact .inl ⟨hin, hq, hlt, (Host.Outcome.next.inj h).symm⟩
      · rw [if_neg hlt] at h; cases h
    · rw [if_neg hq] at h
      exact .inr (.inl ⟨hin, hq, h⟩)
  · have hf : fetch s = arrive x { s with inputs := rest } := by unfold fetch; rw [hin]
    rw [hf] at h
    unfold arrive at h
    cases ht : timeAfter x s.time with
    | none => simp [ht] at h
    | some now =>
      simp only [ht] at h
      cases hd : decodeInput x with
      | ok i =>
        simp only [hd] at h
        exact .inr (.inr (.inr ⟨x, rest, now, i, hin, ht, hd, h⟩))
      | error e =>
        simp only [hd] at h
        cases e with
        | resetInput =>
          obtain rfl := decodeInput_resetInput hd
          exact .inr (.inr (.inl ⟨rest, hin, (Host.Outcome.next.inj h).symm⟩))
        | _ => simp at h

/-- The operations an input can be: the frame opcodes and the output actions are none of them. -/
theorem decodeInput_cases {x : Input} {i : Instr} (h : decodeInput x = .ok i) :
    (∃ t b, x = .rx t b ∧ i = .rxbyte t b) ∨ (∃ t, x = .ended t ∧ i = .rxend t) ∨
    (∃ t, x = .tick t ∧ i = .tick t) ∨ (x = .dec ∧ i = .decodeStep) ∨
    (∃ t v, x = .write t 0 32 v ∧ i = commandInstr t v) ∨
    (∃ t r v, r ≠ .cmd ∧ x = .write t (regOffset r) 32 v ∧ i = .wr t r v) ∨
    (∃ t r, x = .read t (regOffset r) 32 ∧ i = .rd t r) := by
  cases x with
  | rx t b => simp_all [decodeInput]
  | ended t => simp_all [decodeInput]
  | tick t => simp_all [decodeInput]
  | dec => simp_all [decodeInput]
  | hardReset => simp [decodeInput] at h
  | write t off bits v =>
    cases ha : decodeAccess off bits with
    | error e => simp [decodeInput, ha] at h
    | ok r =>
      obtain ⟨rfl, rfl⟩ := decodeAccess_ok ha
      by_cases hr : r = .cmd
      · subst hr
        refine .inr (.inr (.inr (.inr (.inl ⟨t, v, rfl, ?_⟩))))
        simpa [decodeInput, ha] using h.symm
      · refine .inr (.inr (.inr (.inr (.inr (.inl ⟨t, r, v, hr, rfl, ?_⟩)))))
        cases r <;> simp_all [decodeInput]
  | read t off bits =>
    cases ha : decodeAccess off bits with
    | error e => simp [decodeInput, ha] at h
    | ok r =>
      obtain ⟨rfl, rfl⟩ := decodeAccess_ok ha
      exact .inr (.inr (.inr (.inr (.inr (.inr ⟨t, r, rfl, by simpa [decodeInput, ha] using h.symm⟩)))))

/-- Time as an input finds it is not below `TIME`. -/
theorem timeAfter_le {x : Input} {now t : Stamp} (h : timeAfter x now = some t) : now.toNat ≤ t.toNat := by
  unfold timeAfter at h
  split at h
  · simp_all
  · split at h
    · simp_all
    · simp at h

/-- Running actions one list after another. -/
theorem runActions_append (h : Bool) (a b : List SrcAction) :
    runActions h (a ++ b) = (runActions h a).bind fun k => runActions k b := by
  induction a generalizing h with
  | nil => cases h <;> simp [runActions]
  | cons x xs ih => cases h <;> cases x <;> simp [runActions, ih]

end Sys2Proof.Machine
end

