-- ==== Sys2Proof/Laws/Runs.lean ====
section
/-! SUPPORT. Endless runs: what the surroundings add to a state, and what a step of a scan keeps. -/

namespace Sys2Proof.Machine

@[simp] theorem feed_inputs (xs : List Input) (s : State) : (feed xs s).inputs = s.inputs ++ xs := rfl
@[simp] theorem feed_time (xs : List Input) (s : State) : (feed xs s).time = s.time := rfl
@[simp] theorem feed_mode (xs : List Input) (s : State) : (feed xs s).mode = s.mode := rfl
@[simp] theorem feed_cancelReq (xs : List Input) (s : State) : (feed xs s).cancelReq = s.cancelReq := rfl
@[simp] theorem feed_tOpen (xs : List Input) (s : State) : (feed xs s).tOpen = s.tOpen := rfl
@[simp] theorem feed_actWindow (xs : List Input) (s : State) : (feed xs s).actWindow = s.actWindow := rfl
@[simp] theorem feed_candIdx (xs : List Input) (s : State) : (feed xs s).candIdx = s.candIdx := rfl
@[simp] theorem feed_cfq (xs : List Input) (s : State) : (feed xs s).cfq = s.cfq := rfl

/-- What holds at `n`, and from each moment to the next unless `Q` occurs, holds until `Q` first occurs. -/
theorem holds_until {P Q : Nat → Prop} {n : Nat} (h : P n) (hs : ∀ k, n ≤ k → P k → P (k + 1) ∨ Q k) :
    ∀ m, n ≤ m → P m ∨ ∃ k, n ≤ k ∧ k < m ∧ P k ∧ Q k := by
  intro m hm
  induction m, hm using Nat.le_induction with
  | base => exact .inl h
  | succ m hm ih =>
    obtain hp | ⟨k, h1, h2, h3⟩ := ih
    · exact (hs m hm hp).imp_right fun hq => ⟨m, hm, by omega, hp, hq⟩
    · exact .inr ⟨k, h1, by omega, h3⟩

/-- What a scan keeps while no line event, `TICK` or reset comes: the candidate under test, its window, a
pending cancel. -/
def SameObservation (s s' : State) : Prop :=
  s'.mode = .scan ∧ s'.candIdx = s.candIdx ∧ s'.tOpen = s.tOpen ∧ s'.actWindow = s.actWindow
  ∧ (s.cancelReq = true → s'.cancelReq = true)

/-- No command but `SOFT_RESET` ends the observation of a scan. -/
theorem runCommand_scan {s : State} (hm : s.mode = .scan) (t : Stamp) (k : Word) (hk : k ≠ 6) :
    SameObservation s (runCommand t k s) := by
  unfold runCommand
  split
  · rcases openCommand_cases t s with ⟨_, e⟩ | ⟨h, _⟩
    · rw [e]; simp [SameObservation, hm]
    · rw [hm] at h; cases h
  · rcases closeCommand_cases s with ⟨_, e⟩ | ⟨h, _⟩
    · rw [e]; simp [SameObservation, hm]
    · rw [hm] at h; cases h
  · rcases scanStartCommand_cases t s with ⟨_, e⟩ | ⟨h, _⟩
    · rw [e]; simp [SameObservation, hm]
    · rw [hm] at h; cases h
  · rcases scanCancelCommand_cases s with ⟨_, e⟩ | ⟨_, e⟩ <;> rw [e] <;> simp [SameObservation, hm]
  · rcases recPopCommand_cases s with ⟨_, e⟩ | ⟨_, _, _, e⟩ <;> rw [e] <;> simp [SameObservation, hm]
  · exact absurd (BitVec.eq_of_toNat_eq (by assumption)) hk
  · simp [SameObservation, hm]

/-- A timestamped input that has a step sets `TIME` to its timestamp. -/
theorem timeAfter_stamp {x : Input} {now t u : Stamp} (h : timeAfter x now = some u) (hx : inputStamp x = some t) :
    u = t := by
  unfold timeAfter at h
  rw [hx] at h
  by_cases hle : now.toNat ≤ t.toNat <;> simp_all

/-- The decode stage does not touch a scan. -/
theorem decodeStep_scan {s s' : State} (hm : s.mode = .scan) (h : exec .decodeStep s = .next s') :
    SameObservation s s' := by
  rcases execDecodeStep_cases s with ⟨_, e⟩ | ⟨cf, rest, _, _, e⟩ | ⟨cf, rest, f, _, _, e⟩ <;>
    rw [show exec .decodeStep s = execDecodeStep s from rfl, e] at h
  · cases h
  · cases h; simp [SameObservation, hm]
  · obtain ⟨q, w, e'⟩ := decodeStage_shape cf.inGrace
      (decodeRecord ⟨cf.ts, cf.inGrace, f.address, f.crcLo, f.crcHi⟩ f.function f.payload) { s with cfq := rest }
    cases h
    rw [e']
    simp [SameObservation, hm]

/-- A step in SCAN is a reset, or shows the scanner an event at its time, or keeps the observation. -/
theorem step_scan_cases {s s' : State} (hm : s.mode = .scan) (h : step s = .next s') :
    (∃ rest, s.inputs = .hardReset :: rest) ∨
    (∃ t rest, s.inputs = .write t 0 32 6 :: rest) ∨
    (∃ x t rest ev, s.inputs = x :: rest ∧ scannerStamp x = some t ∧
      s' = scanEvent t ev { s with inputs := rest, time := t }) ∨
    (SameObservation s s' ∧ (∀ x rest, s.inputs = x :: rest → scannerStamp x = none)) := by
  rcases step_next_cases h with ⟨hi, _, _, e⟩ | ⟨hi, _, e⟩ | ⟨rest, hi, _⟩ | ⟨x, rest, now, i, hi, ht, hd, e⟩
  · exact .inr (.inr (.inr ⟨by rw [e]; simp [SameObservation, hm], by simp [hi]⟩))
  · exact .inr (.inr (.inr ⟨decodeStep_scan hm e, by simp [hi]⟩))
  · exact .inl ⟨rest, hi⟩
  · have hm' : ({ s with inputs := rest, time := now } : State).mode = .scan := hm
    have hn : scannerStamp x = none → ∀ y l, s.inputs = y :: l → scannerStamp y = none := by
      intro hx y l hy
      rw [hi] at hy
      cases hy
      exact hx
    rcases decodeInput_cases hd with ⟨t, b, rfl, rfl⟩ | ⟨t, rfl, rfl⟩ | ⟨t, rfl, rfl⟩ | ⟨rfl, rfl⟩ | ⟨t, v, rfl, rfl⟩
        | ⟨t, r, v, hr, rfl, rfl⟩ | ⟨t, r, rfl, rfl⟩
    · obtain rfl : t = now := (timeAfter_stamp ht rfl).symm
      rw [exec_rxbyte_scan hm'] at e
      exact .inr (.inr (.inl ⟨_, t, rest, .byte b, hi, rfl, (Host.Outcome.next.inj e).symm⟩))
    · obtain rfl : t = now := (timeAfter_stamp ht rfl).symm
      rw [exec_rxend_scan hm'] at e
      exact .inr (.inr (.inl ⟨_, t, rest, .ended, hi, rfl, (Host.Outcome.next.inj e).symm⟩))
    · obtain rfl : t = now := (timeAfter_stamp ht rfl).symm
      rw [exec_tick_scan hm'] at e
      exact .inr (.inr (.inl ⟨_, t, rest, .tick, hi, rfl, (Host.Outcome.next.inj e).symm⟩))
    · have hk : SameObservation { s with inputs := rest, time := now } s' := decodeStep_scan hm' e
      exact .inr (.inr (.inr ⟨hk, hn rfl⟩))
    · by_cases hv : v = 6
      · subst hv; exact .inr (.inl ⟨t, rest, hi⟩)
      · rw [exec_commandInstr] at e
        cases e
        exact .inr (.inr (.inr ⟨runCommand_scan hm' t v hv, hn rfl⟩))
    · refine .inr (.inr (.inr ⟨?_, hn rfl⟩))
      simp only [exec, execWr] at e
      cases e
      cases r <;> first | exact absurd rfl hr | simp [SameObservation, writeRegister, clearFlags, hm]
    · refine .inr (.inr (.inr ⟨?_, hn rfl⟩))
      simp only [exec, execRd] at e
      cases e
      cases r <;> simp [SameObservation, afterRead, hm]
      all_goals split <;> simp

end Sys2Proof.Machine
end

