-- ==== Sys2Proof/Machine/Trace.lean ====
section
/-! DEFINITION. The spec's trace notation (30_encoding.md R79), the block's "programs": the lines, what each line feeds
to the block, the reading of a line of text, and the playing of a trace. Nothing in the machine depends on it. -/

namespace Sys2Proof.Machine

/-- A line of a trace (R79). The last three are macros. -/
inductive TraceLine where
  | rx      (t : Stamp) (b : Byte)
  | ended   (t : Stamp)
  | tick    (t : Stamp)
  | command (t : Stamp) (k : Word)
  | write   (t : Stamp) (r : Reg) (v : Word)
  | dec
  | frame   (t : Stamp) (d : Nat) (bytes : List Byte)
  | decAll
  | popAll  (t : Option Stamp)
  deriving DecidableEq, Repr

/-- `@t RX b0`, `@(t+d) RX b1`, …: the bytes one after another, `d` ticks apart. A sum of 2^64 or more is outside the
model (R6); here it would wrap, and `readLine` reads no such line [DESIGN CHOICE: assumption 22]. -/
def frameInputs (d : Nat) : Stamp → List Byte → List Input
  | _, [] => []
  | t, b :: bs => .rx t b :: frameInputs d (t + BitVec.ofNat 64 d) bs

/-- A 32-bit read of a host register. -/
def readInput (t : Stamp) (r : Reg) : Input := .read t (regOffset r) 32

/-- A 32-bit write of a host register. -/
def writeInput (t : Stamp) (r : Reg) (v : Word) : Input := .write t (regOffset r) 32 v

/-- The reading of the record window for one record, `REC_DATA` once for each payload byte (R215), then `POP`. -/
def readAndPop (t : Stamp) (d : DecodedFrame) : List Input :=
  [Reg.recHdr, .recF0, .recF1, .recLen, .recTsLo, .recTsHi].map (readInput t)
  ++ List.replicate d.payload.length (readInput t .recData) ++ [writeInput t .cmd 5]

/-- What a line feeds to the block: `DEC*` is `DEC` until CFQ is empty, `POP*` is `POP` until DFQ is empty, each
preceded by reading the record window; the state says how many those are. R79 gives `POP*` no `@<t>`, though a read and a
`POP` carry a time: all of them get one and the same, the present `TIME` unless the line names another [DESIGN CHOICE:
assumption 23]. -/
def lineInputs (s : State) : TraceLine → List Input
  | .rx t b => [.rx t b]
  | .ended t => [.ended t]
  | .tick t => [.tick t]
  | .command t k => [writeInput t .cmd k]
  | .write t r v => [writeInput t r v]
  | .dec => [.dec]
  | .frame t d bytes => frameInputs d t bytes
  | .decAll => List.replicate s.cfq.length .dec
  | .popAll t => s.dfq.flatMap (readAndPop (t.getD s.time))

/-- `n` steps. -/
def runSteps : Nat → State → Host.Outcome State Fault Refusal
  | 0, s => .next s
  | n + 1, s =>
    match step s with
    | .next s' => runSteps n s'
    | o => o

/-- A trace, line after line. -/
def play : List TraceLine → State → Host.Outcome State Fault Refusal
  | [], s => .next s
  | l :: ls, s =>
    match runSteps (lineInputs s l).length { s with inputs := lineInputs s l ++ s.inputs } with
    | .next s' => play ls s'
    | o => o

/-! Reading a line of text. -/

/-- The words of a line: parted by spaces, parentheses words of their own. -/
def traceWords : List Char → List Char → List (List Char)
  | word, [] => if word = [] then [] else [word.reverse]
  | word, c :: cs =>
    let done := if word = [] then [] else [word.reverse]
    if c = ' ' then done ++ traceWords [] cs
    else if c = '(' ∨ c = ')' then done ++ [c] :: traceWords [] cs
    else traceWords (c :: word) cs

/-- The digits of R79's numbers, each at the place of its value. -/
def traceDigits : List Char := "0123456789ABCDEF".toList

/-- The value of a hexadecimal digit; small letters stand for capitals. -/
def digitValue (c : Char) : Option Nat := traceDigits.findIdx? (· == c.toUpper)

/-- A number in a base, most significant digit first, from the value read so far. -/
def readDigits (base : Nat) : Nat → List Char → Option Nat
  | n, [] => some n
  | n, c :: cs =>
    match digitValue c with
    | none => none
    | some d => if d < base then readDigits base (n * base + d) cs else none

/-- A number: decimal, or hexadecimal after `0x`. -/
def readNumber : List Char → Option Nat
  | [] => none
  | '0' :: 'x' :: c :: cs => readDigits 16 0 (c :: cs)
  | cs => readDigits 10 0 cs

/-- Two hexadecimal digits. -/
def readByte : List Char → Option Byte
  | [a, b] => (readDigits 16 0 [a, b]).map (BitVec.ofNat 8)
  | _ => none

/-- A number as a word of `w` bits, none where it does not fit. -/
def fitting (w n : Nat) : Option (BitVec w) := if n < 2 ^ w then some (BitVec.ofNat w n) else none

/-- `@<t>`, a decimal number of ticks. A time of 2^64 or more is "outside the model" (R6): such a line reads as none
[DESIGN CHOICE: assumption 22]. -/
def readStamp : List Char → Option Stamp
  | '@' :: c :: cs => (readDigits 10 0 (c :: cs)).bind (fitting 64)
  | _ => none

/-- The times of `n` bytes from `t` on, `d` ticks apart, all lie below 2^64 (R6, assumption 22). -/
def spacingFits (t : Stamp) (d n : Nat) : Bool := decide (t.toNat + (n - 1) * d < 2 ^ 64)

/-- `+<d>:`, a decimal number of ticks between the bytes of a `FRAME`. -/
def readSpacing (w : List Char) : Option Nat :=
  match w, w.getLast? with
  | '+' :: c :: cs, some ':' => readDigits 10 0 (c :: cs).dropLast
  | _, _ => none

/-- A byte list; inside `CRC( … )` the bytes read so far wait in `open?` and get their trailer at the `)`. -/
def readBytes : Option (List Byte) → List (List Char) → Option (List Byte)
  | none, [] => some []
  | some _, [] => none
  | none, ['C', 'R', 'C'] :: ['('] :: ws => readBytes (some []) ws
  | some m, [')'] :: ws => (readBytes none ws).map (withCrc m ++ ·)
  | none, w :: ws =>
    match readByte w, readBytes none ws with
    | some b, some bs => some (b :: bs)
    | _, _ => none
  | some m, w :: ws =>
    match readByte w with
    | some b => readBytes (some (m ++ [b])) ws
    | none => none

/-- The registers' names. -/
def regNames : List (String × Reg) :=
  [("CMD", .cmd), ("STATUS", .status), ("FLAGS", .flags), ("BAUD", .baud), ("LINECFG", .linecfg),
   ("OPTS", .opts), ("GRACE_TICKS", .graceTicks), ("SCAN_WINDOW", .scanWindow), ("ACT_BAUD", .actBaud),
   ("ACT_LINECFG", .actLinecfg), ("ACT_OPTS", .actOpts), ("ACT_GRACE_TICKS", .actGraceTicks),
   ("ACT_WINDOW", .actWindow), ("CAND_IDX", .candIdx)]
  ++ [("SCAN_TOTAL", .scanTotal), ("SCAN_VALID", .scanValid), ("FOUND_BAUD", .foundBaud),
   ("FOUND_LINECFG", .foundLinecfg), ("REC_HDR", .recHdr), ("REC_F0", .recF0), ("REC_F1", .recF1),
   ("REC_LEN", .recLen), ("REC_TS_LO", .recTsLo), ("REC_TS_HI", .recTsHi), ("REC_DATA", .recData)]

/-- The register of a name. -/
def readReg (w : List Char) : Option Reg :=
  (regNames.find? fun e => e.1.toList == w).map (·.2)

/-- The commands' words and the values they write to `CMD` (R79, R72). -/
def commandNames : List (String × Word) :=
  [("OPEN", 1), ("CLOSE", 2), ("SCAN", 3), ("CANCEL", 4), ("POP", 5), ("RESET", 6)]

/-- A line after its timestamp. -/
def readTimed (t : Stamp) : List (List Char) → Option TraceLine
  | [w] =>
    if w = "END".toList then some (.ended t)
    else if w = "TICK".toList then some (.tick t)
    else if w = "POP*".toList then some (.popAll (some t))
    else (commandNames.find? fun e => e.1.toList == w).map fun e => .command t e.2
  | [w, b] => if w = "RX".toList then (readByte b).map (.rx t) else none
  | w :: x :: y :: ws =>
    if w = "WR".toList ∧ ws = [] then
      match readReg x, readNumber y with
      | some r, some v => (fitting 32 v).map (.write t r)
      | _, _ => none
    else if w = "FRAME".toList then
      match readSpacing x, readBytes none (y :: ws) with
      | some d, some bs => if spacingFits t d bs.length then some (.frame t d bs) else none
      | _, _ => none
    else none
  | [] => none

/-- The lines that carry no timestamp (R79): `DEC`, `DEC*`, `POP*`. -/
def readUntimed (w : List Char) : Option TraceLine :=
  if w = "DEC".toList then some .dec
  else if w = "DEC*".toList then some .decAll
  else if w = "POP*".toList then some (.popAll none)
  else none

/-- A line of a trace read from text. -/
def readLine (cs : List Char) : Option TraceLine :=
  match traceWords [] cs with
  | [] => none
  | [w] => readUntimed w
  | w :: ws =>
    match readStamp w with
    | some t => readTimed t ws
    | none => none

end Sys2Proof.Machine
end

