-- ==== Sys2Proof/Tests/Slice0.lean ====
section
/-! SUPPORT. The model's own tests. Expected values are the spec's: the vectors V.. and programs P.. of
95_test_vectors.md, the worked examples of the rules, or hand calculation from the layouts. Then one witness for each
statement with hypotheses: a concrete state and operands that meet them. -/

namespace Sys2Proof.Tests

open Sys2Proof.Machine Sys2Proof.Statement

/-- What a field of the next state is, none where there is no next state. -/
def after {α : Type} (o : Host.Outcome State Fault Refusal) (f : State → α) : Option α :=
  match o with
  | .next s => some (f s)
  | _ => none

/-- A capture session at 9600 baud with these bytes in BUF, the last of them at `t` (V18 to V27). -/
def cap (buf : List Byte) (t : Stamp) : State :=
  { State.reset with mode := .capture, lineOpen := true, actBaud := 9600, buf := buf, tPrev := t }

/-- The three candidates of P3. -/
def cands : List LinkConfig :=
  [⟨19200, .eight, .even, .one⟩, ⟨9600, .eight, .none, .one⟩, ⟨9600, .eight, .even, .one⟩]

/-- A scan over them that observes candidate 1 since time 0, with these counts (V77 to V84). -/
def scn (total valid : Nat) : State :=
  { State.reset with
    cfg := { Config.sample with scanCands := cands }
    mode := .scan, lineOpen := true, actBaud := 9600, actLinecfg := 1, actWindow := 2000000, candIdx := 1
    scanTotal := total, scanValid := valid }

/-- The request V32 and its 4-byte payload. -/
def v32 : List Byte := [0x01, 0x03, 0x00, 0x00, 0x00, 0x0A, 0xC5, 0xCD]

/-- V59d, V32 with a damaged CRC. -/
def v59d : List Byte := [0x01, 0x03, 0x00, 0x00, 0x00, 0x0A, 0xC5, 0xCC]

/-- A frame's head, with address 1, time stamp 9, outside the grace window. -/
def hd (lo hi : Byte) : FrameHead := ⟨9, false, 0x01, lo, hi⟩

/-- What a test looks at in a DecodedFrame. -/
structure Rec where
  cls : FrameClass
  firstReg : Option Half
  count : Option Half
  bcf : Option Byte
  errorCode : Option Byte
  data : List Byte
  crcValid : Bool
  deriving DecidableEq, Repr

/-- The records DFQ holds afterwards: class, fields, data, CRC validity. -/
def record (o : Host.Outcome State Fault Refusal) : Option (List Rec) :=
  after o fun s => s.dfq.map fun d => ⟨d.cls, d.firstReg, d.count, d.bcf, d.errorCode, d.data, d.crcValid⟩

/-! Ill-formed terms are refused (R62, R64, R70, R72, R208, R201). -/

theorem test_wf_read_response : [wellFormed (.rd01Rsp (hd 0 0) []), wellFormed (.rd02Rsp (hd 0 0) [0x01]),
    wellFormed (.rd03Rsp (hd 0 0) [0x02, 0x00]), wellFormed (.rd04Rsp (hd 0 0) [0x00, 0x00])]
    = [false, false, false, false] := by decide

theorem test_wf_read_request : [wellFormed (.rd01Req (hd 0 0) [0x00]), wellFormed (.rd02Req (hd 0 0) [0x01, 0xAA]),
    wellFormed (.rd03Req (hd 0 0) [0x03, 0x00, 0x00, 0x01]), wellFormed (.rd04Req (hd 0 0) [0x00])]
    = [false, false, false, false] := by decide

theorem test_wf_write_multiple :
    [wellFormed (.wm0fRsp (hd 0 0) [1, 2, 3]), wellFormed (.wm0fReq (hd 0 0) [1, 2, 3, 4]),
     wellFormed (.wm0fUnk (hd 0 0) [1, 2, 3, 4]), wellFormed (.wm10Rsp (hd 0 0) [1, 2, 3, 4, 5]),
     wellFormed (.wm10Req (hd 0 0) [1, 2, 3, 4]), wellFormed (.wm10Unk (hd 0 0) [1, 2, 3, 4])]
    = [false, false, false, false, false, false] := by decide

theorem test_wf_other : ([1, 2, 3, 4, 5, 6, 15, 16].map fun b => wellFormed (.other (hd 0 0) b [])).all (· == false)
    = true := by decide

theorem test_wf_cmdIllegal : ([1, 2, 3, 4, 5, 6].map fun v => wellFormed (.cmdIllegal 0 v)).all (· == false)
    = true := by decide

theorem test_wf_wr : wellFormed (.wr 0 .cmd 1) = false := by decide

theorem test_wf_srcConfigure : wellFormed (.srcConfigure ⟨0, .eight, .none, .one⟩) = false := by decide

/-! Every constructor's decoding, from words written out by R61, R70 (frames), R72 and R46 (accesses), R67, R201 to
R204. -/

theorem test_decode_rd01 :
    decode (.frame ⟨[0x01, 0x01, 0x00, 0x13, 0x00, 0x25, 0x0C, 0x14], 9, false⟩)
      = .ok (.rd01Req (hd 0x0C 0x14) [0x00, 0x13, 0x00, 0x25])
    ∧ decode (.frame ⟨[0x01, 0x01, 0x05, 0xCD, 0x6B, 0xB2, 0x0E, 0x1B, 0x44, 0xEA], 9, false⟩)
      = .ok (.rd01Rsp (hd 0x44 0xEA) [0x05, 0xCD, 0x6B, 0xB2, 0x0E, 0x1B]) := by decide +kernel

theorem test_decode_rd02 :
    decode (.frame ⟨[0x01, 0x02, 0x00, 0xC4, 0x00, 0x16, 0xB8, 0x39], 9, false⟩)
      = .ok (.rd02Req (hd 0xB8 0x39) [0x00, 0xC4, 0x00, 0x16])
    ∧ decode (.frame ⟨[0x01, 0x02, 0x03, 0xAC, 0xDB, 0x35, 0x22, 0x88], 9, false⟩)
      = .ok (.rd02Rsp (hd 0x22 0x88) [0x03, 0xAC, 0xDB, 0x35]) := by decide +kernel

theorem test_decode_rd03 :
    decode (.frame ⟨v32, 9, false⟩) = .ok (.rd03Req (hd 0xC5 0xCD) [0x00, 0x00, 0x00, 0x0A])
    ∧ decode (.frame ⟨[0x01, 0x03, 0x03, 0x00, 0x00, 0x01, 0x84, 0x4E], 9, false⟩)
      = .ok (.rd03Rsp (hd 0x84 0x4E) [0x03, 0x00, 0x00, 0x01]) := by decide +kernel

theorem test_decode_rd04 :
    decode (.frame ⟨[0x01, 0x04, 0x00, 0x08, 0x00, 0x01, 0xB0, 0x08], 9, false⟩)
      = .ok (.rd04Req (hd 0xB0 0x08) [0x00, 0x08, 0x00, 0x01])
    ∧ decode (.frame ⟨[0x01, 0x04, 0x02, 0x00, 0x0A, 0x39, 0x37], 9, false⟩)
      = .ok (.rd04Rsp (hd 0x39 0x37) [0x02, 0x00, 0x0A]) := by decide +kernel

theorem test_decode_write_single :
    decode (.frame ⟨[0x01, 0x05, 0x00, 0xAC, 0xFF, 0x00, 0x4C, 0x1B], 9, false⟩)
      = .ok (.ws05 (hd 0x4C 0x1B) [0x00, 0xAC, 0xFF, 0x00])
    ∧ decode (.frame ⟨[0x01, 0x06, 0x00, 0x01, 0x00, 0x05, 0x18, 0x09], 9, false⟩)
      = .ok (.ws06 (hd 0x18 0x09) [0x00, 0x01, 0x00, 0x05]) := by decide +kernel

theorem test_decode_wm0f :
    decode (.frame ⟨[0x01, 0x0F, 0x00, 0x13, 0x00, 0x0A, 0x02, 0xCD, 0x01, 0x72, 0xCB], 9, false⟩)
      = .ok (.wm0fReq (hd 0x72 0xCB) [0x00, 0x13, 0x00, 0x0A, 0x02, 0xCD, 0x01])
    ∧ decode (.frame ⟨[0x01, 0x0F, 0x00, 0x13, 0x00, 0x0A, 0x24, 0x09], 9, false⟩)
      = .ok (.wm0fRsp (hd 0x24 0x09) [0x00, 0x13, 0x00, 0x0A])
    ∧ decode (.frame ⟨[0x01, 0x0F, 0xAA, 0xBB, 0xCC, 0x00, 0x00], 9, false⟩)
      = .ok (.wm0fUnk (hd 0x00 0x00) [0xAA, 0xBB, 0xCC]) := by decide +kernel

theorem test_decode_wm10 :
    decode (.frame ⟨[0x01, 0x10, 0x00, 0x01, 0x00, 0x02, 0x04, 0x00, 0x0A, 0x01, 0x02, 0x92, 0x30], 9, false⟩)
      = .ok (.wm10Req (hd 0x92 0x30) [0x00, 0x01, 0x00, 0x02, 0x04, 0x00, 0x0A, 0x01, 0x02])
    ∧ decode (.frame ⟨[0x01, 0x10, 0x00, 0x01, 0x00, 0x02, 0x10, 0x08], 9, false⟩)
      = .ok (.wm10Rsp (hd 0x10 0x08) [0x00, 0x01, 0x00, 0x02])
    ∧ decode (.frame ⟨[0x01, 0x10, 0x00, 0x01, 0xC1, 0xDD], 9, false⟩)
      = .ok (.wm10Unk (hd 0xC1 0xDD) [0x00, 0x01]) := by decide +kernel

theorem test_decode_exc_other :
    decode (.frame ⟨[0x01, 0x83, 0x41, 0x81], 9, false⟩) = .ok (.exc (hd 0x41 0x81) 0x03 [])
    ∧ decode (.frame ⟨[0x01, 0x80, 0x01, 0x80, 0x00], 9, false⟩) = .ok (.exc (hd 0x80 0x00) 0x00 [0x01])
    ∧ decode (.frame ⟨[0x01, 0x00, 0xAA, 0xA0, 0x7F], 9, false⟩) = .ok (.other (hd 0xA0 0x7F) 0x00 [0xAA])
    := by decide +kernel

theorem test_decode_commands :
    ([0, 1, 2, 3, 4, 5, 6, 7].map fun k => decode (.input (.write 5 0x00 32 k)))
      = [.ok (.cmdIllegal 5 0), .ok (.openCmd 5), .ok (.closeCmd 5), .ok (.scanStart 5), .ok (.scanCancel 5),
         .ok (.recPop 5), .ok (.softReset 5), .ok (.cmdIllegal 5 7)] := by decide +kernel

theorem test_decode_accesses :
    decode (.input (.write 5 0x10 32 0xB)) = .ok (.wr 5 .linecfg 0xB)
    ∧ decode (.input (.read 5 0x68 32)) = .ok (.rd 5 .recData)
    ∧ decode (.input (.read 5 0x6C 32)) = .error (.offsetBeyondMap 0x6C)
    ∧ decode (.input (.read 5 0x04 16)) = .error (.accessWidth 16)
    ∧ decode (.input (.write 5 0x0E 32 0)) = .error (.misaligned 0x0E) := by decide +kernel

theorem test_decode_line_and_decode_stage :
    decode (.input (.rx 5 0xAB)) = .ok (.rxbyte 5 0xAB) ∧ decode (.input (.ended 5)) = .ok (.rxend 5)
    ∧ decode (.input (.tick 5)) = .ok (.tick 5) ∧ decode (.input .dec) = .ok .decodeStep
    ∧ decode (.input .hardReset) = .error .resetInput := by decide +kernel

theorem test_decode_actions :
    decode (.action (.configure ⟨9600, .eight, .none, .one⟩)) = .ok (.srcConfigure ⟨9600, .eight, .none, .one⟩)
    ∧ decode (.action (.configure ⟨0, .eight, .none, .one⟩)) = .error .configureWithoutBaud
    ∧ decode (.action .openSource) = .ok .srcOpen ∧ decode (.action .closeSource) = .ok .srcClose
    ∧ decode (.action .discard) = .ok .srcDiscard := by decide +kernel

theorem test_short_frame : decode (.frame ⟨[0x01, 0x03, 0x00], 9, false⟩) = .error (.shortFrame 3) := by decide +kernel

/-- Opcode-table words: the value written to `CMD`, and a frame's function byte with nothing after it (assumption 4). -/
theorem test_table_words :
    decodeTableWord 32 3 = some (.scanStart 0) ∧ decodeTableWord 32 0x80000001 = some (.cmdIllegal 0 0x80000001)
    ∧ decodeTableWord 8 0x05 = some (.ws05 ⟨0, false, 0, 0, 0⟩ [])
    ∧ decodeTableWord 8 0x83 = some (.exc ⟨0, false, 0, 0, 0⟩ 0x03 [])
    ∧ decodeTableWord 24 0x000203 = some (.rd03Req ⟨0, false, 0, 0, 0⟩ [0x02, 0x00]) := by decide +kernel

theorem test_withFetchWord :
    after (step (State.reset.withFetchWord 32 0)) (·.flags) = some 0x40
    ∧ record (step (State.reset.withFetchWord 8 0x2B)) = some [⟨.unknown, none, none, none, none, [], false⟩]
    := by decide +kernel

/-! The CRC (V1, V4 to V9; R103). -/

theorem test_crc_vectors :
    crc16 [] = 0xFFFF ∧ crc16 [0x00] = 0x40BF ∧ crc16 [0xFF] = 0x00FF ∧ crc16 [0x00, 0x00] = 0xB001
    ∧ crc16 [0xFF, 0xFF] = 0x0000
    ∧ crc16 [0x31, 0x32, 0x33, 0x34, 0x35, 0x36, 0x37, 0x38, 0x39] = 0x4B37 := by decide +kernel

theorem test_crc_running : ([1, 2, 3, 4, 5, 6].map fun n => crc16 ([0x01, 0x03, 0x00, 0x00, 0x00, 0x0A].take n))
    = [0x807E, 0x2140, 0xF020, 0xD8F1, 0x8419, 0xCDC5] := by decide +kernel

theorem test_crcValid :
    [crcValid v32, crcValid v59d, crcValid [0x01, 0x03, 0x00, 0x00, 0x00, 0x0A, 0xCD, 0xC5],
     crcValid [0x00, 0x00, 0x01, 0xB0], crcValid [0x00, 0x00, 0x00, 0x00], crcValid [0xFF, 0xFF, 0x00, 0x00]]
    = [true, false, false, true, false, true] := by decide +kernel

/-! The frame opcodes (V30 to V59e). -/

theorem test_rd01Rsp : record (exec (.rd01Rsp (hd 0x44 0xEA) [0x05, 0xCD, 0x6B, 0xB2, 0x0E, 0x1B]) State.reset)
    = some [⟨.response, none, some 5, none, none, [0xCD, 0x6B, 0xB2, 0x0E, 0x1B], true⟩] := by decide +kernel

theorem test_rd01Req : record (exec (.rd01Req (hd 0x0C 0x14) [0x00, 0x13, 0x00, 0x25]) State.reset)
    = some [⟨.request, some 0x0013, some 0x0025, none, none, [], true⟩] := by decide +kernel

theorem test_rd02Rsp : record (exec (.rd02Rsp (hd 0x22 0x88) [0x03, 0xAC, 0xDB, 0x35]) State.reset)
    = some [⟨.response, none, some 3, none, none, [0xAC, 0xDB, 0x35], true⟩] := by decide +kernel

theorem test_rd02Req : record (exec (.rd02Req (hd 0xB8 0x39) [0x00, 0xC4, 0x00, 0x16]) State.reset)
    = some [⟨.request, some 0x00C4, some 0x0016, none, none, [], true⟩] := by decide +kernel

theorem test_rd03Rsp_empty : record (exec (.rd03Rsp (hd 0x20 0xF0) [0x00]) State.reset)
    = some [⟨.response, none, some 0, none, none, [], true⟩] := by decide +kernel

theorem test_rd03Req_short :
    record (exec (.rd03Req (hd 0x40 0x21) []) State.reset) = some [⟨.request, none, none, none, none, [], true⟩]
    ∧ record (exec (.rd03Req (hd 0xE1 0x30) [0x01]) State.reset)
      = some [⟨.request, none, none, none, none, [], true⟩] := by decide +kernel

theorem test_rd03Req_trailing : record (exec (.rd03Req (hd 0x4A 0x23) [0x00, 0x00, 0x00, 0x01, 0xFF]) State.reset)
    = some [⟨.request, some 0, some 1, none, none, [0xFF], true⟩] := by decide +kernel

theorem test_rd04Rsp : record (exec (.rd04Rsp (hd 0x39 0x37) [0x02, 0x00, 0x0A]) State.reset)
    = some [⟨.response, none, some 2, none, none, [0x00, 0x0A], true⟩] := by decide +kernel

theorem test_rd04Req : record (exec (.rd04Req (hd 0xB0 0x08) [0x00, 0x08, 0x00, 0x01]) State.reset)
    = some [⟨.request, some 8, some 1, none, none, [], true⟩] := by decide +kernel

theorem test_ws05 : record (exec (.ws05 (hd 0x4C 0x1B) [0x00, 0xAC, 0xFF, 0x00]) State.reset)
    = some [⟨.deferred, some 0x00AC, none, none, none, [0xFF, 0x00], true⟩] := by decide +kernel

theorem test_ws06_short : record (exec (.ws06 (hd 0x20 0x19) [0x00, 0x01]) State.reset)
    = some [⟨.deferred, some 1, none, none, none, [], true⟩] := by decide +kernel

theorem test_wm0fReq :
    record (exec (.wm0fReq (hd 0x72 0xCB) [0x00, 0x13, 0x00, 0x0A, 0x02, 0xCD, 0x01]) State.reset)
    = some [⟨.request, some 0x13, some 0xA, some 2, none, [0xCD, 0x01], true⟩] := by decide +kernel

theorem test_wm0fRsp : record (exec (.wm0fRsp (hd 0x24 0x09) [0x00, 0x13, 0x00, 0x0A]) State.reset)
    = some [⟨.response, some 0x13, some 0xA, none, none, [], true⟩] := by decide +kernel

theorem test_wm0fUnk : record (exec (.wm0fUnk (hd 0x00 0x00) [0xAA, 0xBB, 0xCC]) State.reset)
    = some [⟨.unknown, none, none, none, none, [0xAA, 0xBB, 0xCC], false⟩] := by decide +kernel

theorem test_wm10Req :
    record (exec (.wm10Req (hd 0x92 0x30) [0x00, 0x01, 0x00, 0x02, 0x04, 0x00, 0x0A, 0x01, 0x02]) State.reset)
    = some [⟨.request, some 1, some 2, some 4, none, [0x00, 0x0A, 0x01, 0x02], true⟩] := by decide +kernel

theorem test_wm10Rsp : record (exec (.wm10Rsp (hd 0x10 0x08) [0x00, 0x01, 0x00, 0x02]) State.reset)
    = some [⟨.response, some 1, some 2, none, none, [], true⟩] := by decide +kernel

theorem test_wm10Unk : record (exec (.wm10Unk (hd 0xC1 0xDD) [0x00, 0x01]) State.reset)
    = some [⟨.unknown, none, none, none, none, [0x00, 0x01], true⟩] := by decide +kernel

theorem test_exc_extra : record (exec (.exc (hd 0xA1 0x11) 0x06 [0x02, 0xFF]) State.reset)
    = some [⟨.response, none, none, none, some 2, [0xFF], true⟩] := by decide +kernel

theorem test_exc_empty : record (exec (.exc (hd 0x41 0x81) 0x03 []) State.reset)
    = some [⟨.response, none, none, none, none, [], true⟩] := by decide +kernel

theorem test_other : record (exec (.other (hd 0x70 0x77) 0x2B [0x0E, 0x01, 0x00]) State.reset)
    = some [⟨.unknown, none, none, none, none, [0x0E, 0x01, 0x00], true⟩] := by decide +kernel

/-! The Reassembler (V10, V11, V20 to V28) and the pipeline (V68, V70, V73, V75, V76). -/

theorem test_gap_thresholds :
    [isFrameGap 4011 (cap [] 0), isFrameGap 4010 (cap [] 0), isDiscardGap 1719 (cap [] 0),
     isDiscardGap 1718 (cap [] 0), isDiscardGap 4011 (cap [] 0)] = [true, false, true, false, false]
    ∧ [isFrameGap 5000 { cap [] 0 with actBaud := 7700 }, isFrameGap 4999 { cap [] 0 with actBaud := 7700 }]
      = [true, false] := by decide +kernel

theorem test_rxbyte_gap_4011 : after (exec (.rxbyte 21305 0x01) (cap v32 17294))
    (fun s => (s.buf, s.tPrev, s.cfq, s.flags)) = some ([0x01], 21305, [⟨v32, 17294, false⟩], 0) := by decide +kernel

theorem test_rxbyte_short : after (exec (.rxbyte 10000 0x07) (cap [0x01, 0x03, 0x00] 500))
    (fun s => (s.buf, s.tPrev, s.cfq, s.flags)) = some ([0x07], 10000, [], 4) := by decide +kernel

theorem test_rxend : after (exec (.rxend 17300) (cap v32 17294))
    (fun s => ((s.buf, s.cfq), s.mode, s.lineOpen, s.flags, s.actions))
    = some (([], [⟨v32, 17294, false⟩]), .idle, false, 1, []) := by decide +kernel

theorem test_rxend_scan_accepts : after (exec (.rxend 700) (scn 1 1))
    (fun s => (s.scanOutcome, s.foundBaud, s.foundLinecfg, s.flags, s.actions))
    = some (.accepted, 9600, 1, 2, []) := by decide +kernel

theorem test_tick_window : after (exec (.tick 1999999) (scn 5 4)) (·.mode) = some .scan
    ∧ after (exec (.tick 2000000) (scn 5 4)) (fun s => (s.mode, s.scanOutcome, s.actions))
      = some (.idle, .accepted, [.closeSource]) := by decide +kernel

theorem test_tick_rejects : after (exec (.tick 2000000) (scn 4 3))
    (fun s => (s.candIdx, s.tOpen, s.scanTotal, s.actLinecfg, s.actions))
    = some (2, 2000000, 0, 3, [.closeSource, .configure ⟨9600, .eight, .even, .one⟩, .openSource, .discard])
    := by decide +kernel

theorem test_decodeStep_dfq_full :
    after (exec .decodeStep
      { State.reset with
        cfg := { Config.sample with dfqDepth := 2 }
        cfq := [⟨v32, 8000, false⟩, ⟨v59d, 8001, false⟩]
        dfq := [header (hd 0 0) 0x03 [], header (hd 0 0) 0x04 []] })
      (fun s => (s.cfq, s.dfq, s.flags))
      = some ([⟨v59d, 8001, false⟩], [header (hd 0 0) 0x03 [], header (hd 0 0) 0x04 []], 8) := by decide +kernel

theorem test_decodeStep_grace :
    after (exec .decodeStep { State.reset with cfq := [⟨v59d, 100, true⟩] }) (fun s => (s.cfq, s.dfq, s.flags))
      = some ([], [], 0)
    ∧ after (exec .decodeStep { State.reset with cfq := [⟨v32, 100, true⟩] }) (fun s => s.dfq.map (·.crcValid))
      = some [true] := by decide +kernel

theorem test_grace_window :
    [inGraceWindow 49999 { cap [] 0 with actGraceEn := true, actGraceTicks := 50000 },
     inGraceWindow 50000 { cap [] 0 with actGraceEn := true, actGraceTicks := 50000 }] = [true, false]
    := by decide +kernel

/-! Host commands and registers (V82, V87, V92, V94, V97, V98, V59f). -/

theorem test_openCmd : after (exec (.openCmd 4) { State.reset with baud := 9600, linecfg := 0xB })
    (fun s => (s.actions, s.mode, s.actLinecfg, s.tOpen, readRegister .status s))
    = some ([.configure ⟨9600, .eight, .even, .two⟩, .openSource], .capture, 0xB, 4, 0x05) := by decide +kernel

theorem test_openCmd_refused : after (exec (.openCmd 3) { State.reset with baud := 9600, linecfg := 0x7 })
    (fun s => (s.mode, s.flags, s.actions)) = some (.idle, 0x40, []) := by decide +kernel

theorem test_closeCmd : after (exec (.closeCmd 17300) (cap v32 17294))
    (fun s => ((s.buf, s.cfq), s.mode, s.lineOpen, s.flags, s.actions))
    = some (([], [⟨v32, 17294, false⟩]), .idle, false, 0, [.closeSource]) := by decide +kernel

theorem test_scanStart : after (exec (.scanStart 100) { scn 0 0 with mode := .idle, lineOpen := false })
    (fun s => (s.candIdx, s.actBaud, s.tOpen, s.actions, readRegister .status s))
    = some (0, 19200, 100, [.configure ⟨19200, .eight, .even, .one⟩, .openSource, .discard], 0x06)
    := by decide +kernel

theorem test_scanCancel : after (exec (.scanCancel 5000) (scn 5 5)) (fun s => (s.cancelReq, s.mode, s.lineOpen))
    = some (true, .scan, true)
    ∧ after (exec (.rxbyte 2000000 0x01) { scn 5 5 with cancelReq := true }) (fun s => (s.scanOutcome, s.actions))
      = some (.cancelled, [.closeSource]) := by decide +kernel

theorem test_recPop :
    after (exec (.recPop 0) { State.reset with dfq := [header (hd 0 0) 0x03 [1], header (hd 0 0) 0x04 []], recCur := 1 })
      (fun s => (s.dfq.map (·.function), s.recCur, s.flags)) = some ([0x04], 0, 0) := by decide +kernel

theorem test_softReset : after (exec (.softReset 8) { cap [0xAA] 7 with baud := 9600, flags := 0x7F })
    (fun s => ((s.buf, s.baud, s.linecfg), s.flags, s.mode, s.scanWindow, s.actions))
    = some (([], 0, 1), 0, .idle, 2000000, [.closeSource]) := by decide +kernel

theorem test_wr_flags_and_linecfg :
    after (exec (.wr 0 .flags 0x41) { State.reset with flags := 0x45 }) (·.flags) = some 0x04
    ∧ after (exec (.wr 0 .linecfg 0xFFFFFFFF) State.reset) (·.linecfg) = some 0xF := by decide +kernel

/-- The record window of V32 with time stamp 17294 (V59f). -/
theorem test_rd_window :
    ([Reg.recHdr, .recF0, .recF1, .recLen, .recTsLo, .recTsHi].map fun r =>
      after (exec (.rd 0 r)
        { State.reset with dfq := [decodeRecord ⟨17294, false, 0x01, 0xC5, 0xCD⟩ 0x03 [0x00, 0x00, 0x00, 0x0A]] })
        (·.rdata))
    = [some 0x00340301, some 0x000A0000, some 0xCDC50000, some 0x00040004, some 0x0000438E, some 0] := by
  decide +kernel

theorem test_rd_recData :
    after (exec (.rd 0 .recData) { State.reset with dfq := [header (hd 0 0) 0x03 [0x0A]], recCur := 0 })
      (fun s => (s.rdata, s.recCur)) = some (0x0A, 1)
    ∧ after (exec (.rd 0 .recData) { State.reset with dfq := [header (hd 0 0) 0x03 [0x0A]], recCur := 1 })
      (fun s => (s.rdata, s.recCur)) = some (0, 1) := by decide +kernel

theorem test_source_actions :
    after (exec (.srcConfigure ⟨9600, .eight, .none, .one⟩) State.reset) (fun s => (s.actions, s.lineOpen))
      = some ([.configure ⟨9600, .eight, .none, .one⟩], false)
    ∧ after (exec .srcOpen State.reset) (fun s => (s.actions, s.lineOpen)) = some ([.openSource], true)
    ∧ after (exec .srcClose (cap [] 0)) (fun s => (s.actions, s.lineOpen)) = some ([.closeSource], false)
    ∧ after (exec .srcDiscard (cap [] 0)) (fun s => (s.actions, s.lineOpen)) = some ([.discard], true)
    := by decide +kernel

theorem test_source_action_not_emitted : exec .srcClose State.reset = .refused (.actionNotEmitted .closeSource) := rfl

/-! The trace notation (R79); the sample instance meets the ranges of R5 and R76. -/

theorem test_sample_wf :
    Config.sample.wf = true ∧ ({ Config.sample with bufCap := none } : Config).wf = false
    ∧ ({ Config.sample with dfqDepth := 0 } : Config).wf = false := by decide +kernel

theorem test_trace_bounds :
    readLine "@18446744073709551615 TICK".toList = some (.tick 0xFFFFFFFFFFFFFFFF)
    ∧ readLine "@18446744073709551616 TICK".toList = none
    ∧ readLine "@18446744073709551614 FRAME +1: 01 02".toList = some (.frame 0xFFFFFFFFFFFFFFFE 1 [0x01, 0x02])
    ∧ readLine "@18446744073709551615 FRAME +1: 01 02".toList = none
    ∧ readLine "@0 WR BAUD 0x100000000".toList = none := by decide +kernel

/-- `POP*` as R79 writes it: reads and pop of the one record at the present `TIME`. -/
theorem test_trace_pop_all :
    readLine "POP*".toList = some (.popAll none)
    ∧ lineInputs { State.reset with time := 9, dfq := [header (hd 0 0) 0x03 []] } (.popAll none)
      = [.read 9 0x50 32, .read 9 0x54 32, .read 9 0x58 32, .read 9 0x5C 32, .read 9 0x60 32, .read 9 0x64 32,
         .write 9 0x00 32 5] := by decide +kernel

theorem test_trace_lines :
    readLine "@22294 RX 01".toList = some (.rx 22294 0x01)
    ∧ readLine "@0 OPEN".toList = some (.command 0 1)
    ∧ readLine "@5 WR LINECFG 0xB".toList = some (.write 5 .linecfg 0xB)
    ∧ readLine "DEC*".toList = some .decAll
    ∧ readLine "@10 FRAME +1042: CRC( 01 03 00 00 00 0A )".toList = some (.frame 10 1042 v32)
    ∧ readLine "@10 NOPE".toList = none := by decide +kernel

/-! Witnesses: for every statement with hypotheses, a concrete state and operands that meet them together, at the
boundary values of its clauses. -/

/-- The state with these inputs to arrive. -/
def withInputs (xs : List Input) (s : State) : State := { s with inputs := xs }

theorem witness_DecodeOfEncodeIsTheInstruction :
    [Instr.rd03Rsp (hd 0 0) [0], .rd03Req (hd 0 0) [], .wm0fRsp (hd 0 0) [1, 2, 3, 4], .wm10Req (hd 0 0) [1, 2, 3, 4, 5],
     .wm10Unk (hd 0 0) [1, 2, 3], .exc (hd 0 0) 0x7F [], .other (hd 0 0) 0 [], .cmdIllegal 0 0xFFFFFFFF,
     .wr 0 .recData 1, .srcConfigure ⟨1, .seven, .odd, .two⟩].all wellFormed = true := by decide +kernel

theorem witness_EncodeOfDecodeIsTheCode :
    decode (.frame ⟨v32, 9, false⟩) = .ok (.rd03Req (hd 0xC5 0xCD) [0x00, 0x00, 0x00, 0x0A]) := by decide +kernel

theorem witness_FrameOpcodeSelection :
    ReadResponse [0x01, 0xAA] ∧ ¬ ReadResponse [] ∧ ¬ ReadResponse [0x01]
    ∧ [0x80, 0xFF].all (fun fn : Byte => fn.getLsbD 7)
    ∧ [0x00, 0x07, 0x7F].all (fun fn : Byte =>
        !fn.getLsbD 7 && decide (fn.toNat ∉ [0x01, 0x02, 0x03, 0x04, 0x05, 0x06, 0x0F, 0x10]))
    ∧ ([1, 2, 3, 4] : List Byte).length = 4 ∧ 5 ≤ ([1, 2, 3, 4, 5] : List Byte).length
    ∧ ([1, 2, 3] : List Byte).length ≤ 3
    ∧ (⟨[0x01, 0x03, 0x00], 9, false⟩ : CandidateFrame).bytes.length < 4 :=
  ⟨⟨_, _, rfl, rfl⟩, by simp [ReadResponse], by simp [ReadResponse], by decide, by decide, rfl, by decide, by decide,
    by decide⟩

theorem witness_StepRunsTheArrivedOperation :
    let s := withInputs [.rx 7 0x55] { cap [] 0 with time := 7 }
    s.inputs = .rx 7 0x55 :: [] ∧ decode (.input (.rx 7 0x55)) = .ok (.rxbyte 7 0x55)
    ∧ ∀ t, inputStamp (.rx 7 0x55) = some t → s.time.toNat ≤ t.toNat := by
  refine ⟨rfl, rfl, fun t h => ?_⟩
  cases h
  decide

theorem witness_StepWithoutInputsDecodesOrWaits :
    State.reset.inputs = [] ∧ State.reset.cfq = [] ∧ State.reset.time.toNat + 1 < 2 ^ 64
    ∧ ({ State.reset with cfq := [⟨v32, 0, false⟩] } : State).cfq ≠ [] := by decide +kernel

theorem witness_TimestampsDoNotDecrease :
    let s := withInputs [.tick 9] { State.reset with time := 9 }
    let s' := withInputs [.tick 9] { State.reset with time := 10 }
    s.inputs = .tick 9 :: [] ∧ inputStamp (.tick 9) = some 9 ∧ s.time.toNat ≤ (9 : Stamp).toNat
    ∧ s'.inputs = .tick 9 :: [] ∧ (9 : Stamp).toNat < s'.time.toNat := by decide +kernel

theorem witness_RegisterAccessRules :
    let s := withInputs [.write 0 0x6C 32 1] State.reset
    s.time.toNat ≤ (0 : Stamp).toNat ∧ s.inputs = .write 0 0x6C 32 1 :: [] ∧ 0x6C ≤ 0x6C
    ∧ (withInputs [.read 0 0x04 16] State.reset).inputs = .read 0 0x04 16 :: [] ∧ 16 ≠ 32
    ∧ 0x69 % 4 ≠ 0 ∧ Reg.status ∈ readOnlyRegs := by decide +kernel

theorem room_unbounded {s : State} (h : s.cfg.bufCap = none) (n : Nat) : Room s n := by simp [Room, h]

theorem room_below {s : State} {c n : Nat} (h : s.cfg.bufCap = some c) (hn : n < c) : Room s n := by
  simp [Room, h, hn]

/-- First byte of a session; a gap one tick short of the frame gap, with one place left in BUF; one tick short of the
discard gap in discard mode; a byte in SCAN. -/
theorem witness_ByteWithoutBoundaryIsAppended :
    (Reassembled (cap [] 0) 4011 ∧ NoBoundary (cap [] 0) 4011 ∧ Room (cap [] 0) 0)
    ∧ (let s := { cap [1, 2, 3] 0 with cfg := { Config.sample with bufCap := some 4 } }
      Reassembled s 4010 ∧ NoBoundary s 4010 ∧ Room s 3)
    ∧ (let s := { cap [1] 0 with actDiscard := true, cfg := { Config.sample with bufCap := none } }
      Reassembled s 1718 ∧ NoBoundary s 1718 ∧ Room s 1)
    ∧ (Reassembled (scn 0 0) 1999999 ∧ NoBoundary (scn 0 0) 1999999 ∧ Room (scn 0 0) 0) :=
  ⟨⟨by decide, by decide, room_below rfl (by decide)⟩, ⟨by decide, by decide +kernel, room_below rfl (by decide)⟩,
    ⟨by decide, by decide +kernel, room_unbounded rfl 1⟩, ⟨by decide +kernel, by decide, room_below rfl (by decide)⟩⟩

/-- A gap of exactly 3.5 characters: 4011 ticks at 9600 baud, and 5000 at 7700 where the comparison is equality. -/
theorem witness_CaptureFrameGapDeliversTheSegment :
    (∀ s ∈ [cap v32 0], s.mode = .capture ∧ s.buf ≠ [] ∧ FrameGap s (gap s 4011) ∧ Room s 0)
    ∧ ∀ s ∈ [{ cap v32 0 with actBaud := 7700 }], s.mode = .capture ∧ s.buf ≠ [] ∧ FrameGap s (gap s 5000) ∧ Room s 0 := by
  constructor <;> intro s h <;> simp only [List.mem_singleton] at h <;> subst h
    <;> exact ⟨rfl, by decide, by decide +kernel, room_below rfl (by decide)⟩

/-- A gap of exactly 1.5 characters: 1719 ticks at 9600 baud, and 5000 at 3300 where the comparison is equality; the
largest gap below a frame gap. -/
theorem witness_DiscardGapClearsTheBuffer :
    let s := { cap [0x01] 0 with actDiscard := true }
    let s' := { s with actBaud := 3300 }
    Reassembled s 1719 ∧ s.buf ≠ [] ∧ s.actDiscard = true
    ∧ DiscardGap s (gap s 1719) ∧ ¬ FrameGap s (gap s 1719)
    ∧ DiscardGap s (gap s 4010) ∧ ¬ FrameGap s (gap s 4010)
    ∧ DiscardGap s' (gap s' 5000) ∧ ¬ FrameGap s' (gap s' 5000) ∧ Room s 0 := by
  refine ⟨?_, ?_, ?_, ?_, ?_, ?_, ?_, ?_, ?_, room_below rfl (by decide)⟩ <;> decide +kernel

theorem witness_FullBufferDropsTheArrivingByte :
    let s := { cap [0x01, 0x03, 0x00, 0x00] 0 with cfg := { Config.sample with bufCap := some 4 } }
    Reassembled s 1042 ∧ NoBoundary s 1042 ∧ s.cfg.bufCap = some 4 ∧ s.buf.length = 4 := by decide +kernel

/-- Four bytes 1042 ticks apart, then a gap of 4011; three bytes for the other clause. -/
theorem witness_OneGapCutsExactlyOneSegment :
    let s := cap [] 0
    let bytes : List (Stamp × Byte) := [(1042, 0x03), (2084, 0x00), (3126, 0x00)]
    s.mode = .capture ∧ s.actDiscard = false ∧ Room s bytes.length ∧ s.buf = [] ∧ Close s 0 bytes
    ∧ FrameGap s ((7137 : Stamp).toNat - (3126 : Stamp).toNat)
    ∧ 4 ≤ (0x01 :: bytes.map Prod.snd).length ∧ s.cfg.cfqDepth ≠ some s.cfq.length
    ∧ Close s 0 (bytes.take 2) ∧ (0x01 :: (bytes.take 2).map Prod.snd).length < 4 := by
  refine ⟨rfl, rfl, room_below rfl (by decide), rfl, ⟨?_, ?_, ?_, trivial⟩, ?_, ?_, ?_, ⟨?_, ?_, trivial⟩, ?_⟩ <;> decide +kernel

theorem witness_CaptureSourceEndFlushesTheTail : (cap v32 17294).mode = .capture := rfl

theorem witness_IdleLineAndTickChangeNothing : State.reset.mode = .idle ∧ (cap [] 0).mode = .capture := ⟨rfl, rfl⟩

theorem witness_ValidRecordReproducesItsCrc :
    ∃ s' d, exec .decodeStep { State.reset with cfq := [⟨v32, 0, false⟩] } = .next s'
      ∧ s'.dfq = State.reset.dfq ++ [d] ∧ d.crcValid = true := ⟨_, _, rfl, rfl, by decide +kernel⟩

theorem witness_ReadRecord :
    (∃ n rest, ([0x00] : List Byte) = n :: rest ∧ ([0x00] : List Byte).length = 1 + n.toNat)
    ∧ (∃ n rest, ([0x02, 0x00, 0x0A] : List Byte) = n :: rest ∧ ([0x02, 0x00, 0x0A] : List Byte).length = 1 + n.toNat)
    ∧ ¬ ReadResponse [] ∧ ¬ ReadResponse [0x00, 0x00, 0x00, 0x0A] :=
  ⟨⟨_, _, rfl, rfl⟩, ⟨_, _, rfl, rfl⟩, by simp [ReadResponse], by simp [ReadResponse]⟩

theorem witness_WriteMultipleRecord :
    ([1, 2, 3, 4] : List Byte).length = 4 ∧ 5 ≤ ([1, 2, 3, 4, 5] : List Byte).length
    ∧ ([1, 2, 3] : List Byte).length ≤ 3 ∧ ([] : List Byte).length ≤ 3 := by decide

theorem witness_OtherRecord :
    (0x2B : BitVec 7).toNat ∉ [0x01, 0x02, 0x03, 0x04, 0x05, 0x06, 0x0F, 0x10]
    ∧ (0 : BitVec 7).toNat ∉ [0x01, 0x02, 0x03, 0x04, 0x05, 0x06, 0x0F, 0x10] := by decide

theorem witness_DecodeStepRunsTheFrameOpcode :
    ({ State.reset with cfq := [⟨v32, 9, false⟩] } : State).cfq = ⟨v32, 9, false⟩ :: []
    ∧ decode (.frame ⟨v32, 9, false⟩) = .ok (.rd03Req (hd 0xC5 0xCD) [0x00, 0x00, 0x00, 0x0A]) := by decide +kernel

theorem witness_DecodeStepConsumesTheHead :
    State.reset.cfq = []
    ∧ ({ State.reset with cfq := [⟨[0x00, 0x00, 0x01, 0xB0], 0, true⟩] } : State).cfq
        = ⟨[0x00, 0x00, 0x01, 0xB0], 0, true⟩ :: []
    ∧ 4 ≤ ([0x00, 0x00, 0x01, 0xB0] : List Byte).length := by decide +kernel

theorem witness_FullDfqDropsTheNewestFrame :
    let p : List Byte := [0x00, 0x00, 0x00, 0x0A]
    let s := { State.reset with
      cfg := { Config.sample with dfqDepth := 1 }
      cfq := [⟨frameBytes (hd 0xC5 0xCD) 0x03 p, 0, true⟩], dfq := [header (hd 0 0) 0x03 []] }
    s.cfq = ⟨frameBytes (hd 0xC5 0xCD) 0x03 p, 0, true⟩ :: [] ∧ crcOk (hd 0xC5 0xCD) 0x03 p = true
    ∧ s.dfq.length = s.cfg.dfqDepth := by decide +kernel

theorem witness_GraceFilterDropsOnlyInvalidFrames :
    let p : List Byte := [0x00, 0x00, 0x00, 0x0A]
    let s (h : FrameHead) := { State.reset with cfq := [⟨frameBytes h 0x03 p, 0, true⟩] }
    (s (hd 0xC5 0xCC)).cfq = ⟨frameBytes (hd 0xC5 0xCC) 0x03 p, 0, true⟩ :: [] ∧ crcOk (hd 0xC5 0xCC) 0x03 p = false
    ∧ (s (hd 0xC5 0xCD)).cfq = ⟨frameBytes (hd 0xC5 0xCD) 0x03 p, 0, true⟩ :: []
    ∧ crcOk (hd 0xC5 0xCD) 0x03 p = true
    ∧ (s (hd 0xC5 0xCD)).dfq.length ≠ (s (hd 0xC5 0xCD)).cfg.dfqDepth := by decide +kernel

theorem witness_DecodeDependsOnTheBytesOnly :
    let s₁ := { State.reset with cfq := [⟨v32, 1, false⟩] }
    let s₂ := { cap [] 0 with cfq := [⟨v32, 2, false⟩, ⟨v32, 3, false⟩] }
    4 ≤ v32.length
    ∧ s₁.cfq = ⟨v32, 1, false⟩ :: [] ∧ s₁.dfq.length ≠ s₁.cfg.dfqDepth
    ∧ s₂.cfq = ⟨v32, 2, false⟩ :: [⟨v32, 3, false⟩] ∧ s₂.dfq.length ≠ s₂.cfg.dfqDepth := by decide +kernel

theorem witness_WrongCrcIsDecodedAlike : State.reset.dfq.length ≠ State.reset.cfg.dfqDepth := by decide

theorem witness_ScanStartOpensTheFirstCandidate :
    ((cap [] 0).mode ≠ .idle) ∧ ({ State.reset with scanWindow := 0 } : State).scanWindow = 0
    ∧ State.reset.mode = .idle ∧ State.reset.scanWindow ≠ 0
    ∧ ({ State.reset with cfg := { Config.sample with scanCands := cands } } : State).cfg.scanCands
        = ⟨19200, .eight, .even, .one⟩ :: cands.tail
    ∧ ({ State.reset with cfg := { Config.sample with scanCands := [] } } : State).cfg.scanCands = [] := by
  decide +kernel

/-- The last tick of the window; a valid frame of 8 bytes, and three bytes. -/
theorem witness_ScanFrameGapCountsTheSegment :
    let s (buf : List Byte) := { scn 0 0 with buf := buf, tPrev := 1995988 }
    (s []).mode = .scan ∧ (s []).cancelReq = false
    ∧ (1999999 : Stamp).toNat - (s []).tOpen.toNat < (s []).actWindow.toNat
    ∧ (s v32).buf ≠ [] ∧ FrameGap (s v32) (gap (s v32) 1999999)
    ∧ (s v32).buf = frameBytes (hd 0xC5 0xCD) 0x03 [0x00, 0x00, 0x00, 0x0A]
    ∧ (s [1, 2, 3]).buf ≠ [] ∧ (s [1, 2, 3]).buf.length < 4 ∧ FrameGap (s [1, 2, 3]) (gap (s [1, 2, 3]) 1999999)
    ∧ Room (s v32) 0 ∧ Room (s [1, 2, 3]) 0 := by
  refine ⟨?_, ?_, ?_, ?_, ?_, ?_, ?_, ?_, ?_, room_below rfl (by decide), room_below rfl (by decide)⟩ <;> decide +kernel

/-- 4 of 5 accept. -/
theorem witness_PassingCandidateIsAccepted :
    (scn 5 4).mode = .scan ∧ (scn 5 4).cancelReq = false ∧ Accepts (scn 5 4)
    ∧ (scn 5 4).actWindow.toNat ≤ (2000000 : Stamp).toNat - (scn 5 4).tOpen.toNat := by decide +kernel

/-- 3 of 4 and 0 of 0 do not. -/
theorem witness_FailingCandidateGivesWayToTheNext :
    (scn 4 3).mode = .scan ∧ (scn 4 3).cancelReq = false ∧ ¬ Accepts (scn 4 3) ∧ ¬ Accepts (scn 0 0)
    ∧ (scn 4 3).actWindow.toNat ≤ (2000000 : Stamp).toNat - (scn 4 3).tOpen.toNat := by decide +kernel

theorem witness_CancelIsHonouredFirst :
    (scn 5 5).mode = .scan ∧ State.reset.mode ≠ .scan ∧ ({ scn 5 5 with cancelReq := true } : State).cancelReq = true := by
  decide

/-- A scan whose only candidate has passed when the source ends; a `TICK` inside the window comes first. -/
def lone : State :=
  { scn 5 4 with
    cfg := { Config.sample with scanCands := [⟨9600, .eight, .none, .one⟩] }
    candIdx := 0, inputs := [.tick 600, .ended 700] }

theorem lone_invariant : Invariant lone where
  lengths := fun _ _ => ⟨fun _ h => (nomatch h), fun _ h => (nomatch h)⟩
  line := by simp [LineInv, lone, scn]
  capacity := ⟨fun _ _ => Nat.zero_le _, fun _ h => (nomatch h), by decide +kernel⟩
  candidate := by intro cf h; cases h
  reserved := by simp only [ReservedBitsInv]; decide +kernel
  scan := ⟨by decide, by decide, fun _ => ⟨_, rfl, rfl, by decide +kernel⟩⟩
  times := ⟨by decide, by decide⟩
  cursor := rfl
  records := by intro d h; cases h

theorem witness_ScanSelectsTheOnlyPassingCandidate :
    ∃ u last, Invariant lone ∧ lone.mode = .scan ∧ lone.candIdx ≤ 0 ∧ 0 < lone.cfg.scanCands.length
      ∧ Run lone ([u] ++ [last])
      ∧ (∀ v ∈ lone :: [u], v.mode = .scan ∧ v.cancelReq = false ∧ ¬ ResetNext v
        ∧ (EndsObservation v → (Accepts v ↔ v.candIdx = 0)))
      ∧ EndsObservation u ∧ last.mode = .idle := by
  refine ⟨{ lone with inputs := [.ended 700], time := 600 }, _, lone_invariant, rfl, by decide, by decide,
    ⟨by rfl, rfl, trivial⟩, ?_, .inl ⟨_, _, rfl⟩, by decide +kernel⟩
  intro v hv
  simp only [List.mem_cons, List.not_mem_nil, or_false] at hv
  rcases hv with rfl | rfl
  · exact ⟨rfl, rfl, by simp [ResetNext, lone], fun _ => by decide +kernel⟩
  · exact ⟨rfl, rfl, by simp [ResetNext], fun _ => by decide +kernel⟩

theorem witness_ScanLeavesTheQueuesAlone : (scn 5 4).mode = .scan := rfl

theorem witness_OpenLatchesAndOpens :
    ({ State.reset with linecfg := 0x6 } : State).linecfg.extractLsb' 1 2 = 3#2 ∧ State.reset.baud = 0
    ∧ State.reset.mode = .idle ∧ ({ State.reset with baud := 1 } : State).baud ≠ 0
    ∧ ({ State.reset with baud := 1, linecfg := 0xD } : State).linecfg.extractLsb' 1 2 ≠ 3#2 := by decide

theorem witness_CloseFlushesAndCloses : State.reset.mode ≠ .capture ∧ (cap [] 0).mode = .capture := by decide

theorem witness_RecPopRemovesTheHead :
    State.reset.dfq = []
    ∧ ({ State.reset with dfq := [header (hd 0 0) 0x03 []] } : State).dfq = header (hd 0 0) 0x03 [] :: [] := ⟨rfl, rfl⟩

theorem witness_ResetPutsEveryElementAtItsValue :
    (withInputs [.hardReset, .tick 4] (cap v32 3)).inputs = .hardReset :: [.tick 4] := rfl

theorem witness_RefusedCommandsSetOnlyTheFlag :
    (scn 0 0).mode ≠ .idle ∧ State.reset.baud = 0 ∧ ({ State.reset with linecfg := 7 } : State).linecfg.extractLsb' 1 2 = 3#2
    ∧ State.reset.mode ≠ .capture ∧ ({ State.reset with scanWindow := 0 } : State).scanWindow = 0
    ∧ State.reset.mode ≠ .scan ∧ State.reset.dfq = []
    ∧ [0, 7, 0xFFFFFFFF].all (fun v : Word => decide (v.toNat ∉ [1, 2, 3, 4, 5, 6])) := by decide +kernel

theorem witness_WritingCmdRunsTheCommand :
    (withInputs [.write 0 0x00 32 7] State.reset).inputs = .write 0 0x00 32 7 :: []
    ∧ (withInputs [.write 0 0x00 32 7] State.reset).time.toNat ≤ (0 : Stamp).toNat := by decide +kernel

theorem witness_SourceActionsAndTheHandle : State.reset.lineOpen = false ∧ (cap [] 0).lineOpen = true := ⟨rfl, rfl⟩

/-- The step from `lone` that ends the scan, by `RXEND` after the `TICK`. -/
theorem witness_NeverMoreThanOneHandle : ∃ s', Invariant lone ∧ step lone = .next s' := ⟨_, lone_invariant, rfl⟩

theorem witness_RegisterWrites :
    decode (.input (.write 0 0x00 32 0xFFFFFFFF)) = .ok (.cmdIllegal 0 0xFFFFFFFF) ∧ Reg.reserved4C ∈ readOnlyRegs := by
  decide +kernel

theorem witness_RegisterReadsChangeNothing :
    Reg.cmd ≠ .recData ∧ Reg.recTsHi ≠ .recData ∧ ({ State.reset with scanTotal := 2 ^ 32 - 1 } : State).scanTotal < 2 ^ 32
    ∧ State.reset.candIdx < 2 ^ 32 ∧ State.reset.scanValid < 2 ^ 32 := by decide +kernel

theorem witness_RecordWindowStreamsThePayload :
    let s (c : Nat) := { State.reset with dfq := [header (hd 0 0) 0x03 [0x0A, 0x0B]], recCur := c }
    (s 1).dfq = header (hd 0 0) 0x03 [0x0A, 0x0B] :: [] ∧ (header (hd 0 0) 0x03 [0x0A, 0x0B]).payload[(s 1).recCur]? = some 0x0B
    ∧ (header (hd 0 0) 0x03 [0x0A, 0x0B]).payload.length ≤ (s 2).recCur
    ∧ State.reset.dfq = [] ∧ Reg.recData ∈ windowRegs := by decide +kernel

theorem witness_RecordHeaderLayout :
    ({ State.reset with dfq := [exceptionFrame (header (hd 0 0) 0x83 [0x02])] } : State).dfq
      = exceptionFrame (header (hd 0 0) 0x83 [0x02]) :: [] := rfl

theorem witness_RecordLengthAndTimeLayout_invariant :
    Invariant { State.reset with dfq := [header (hd 0 0) 0x03 [0x0A]] } where
  line := by simp [LineInv, State.reset, State.resetWith]
  capacity := ⟨fun _ _ => Nat.zero_le _, fun _ h => (nomatch h), by decide +kernel⟩
  candidate := by intro cf h; cases h
  reserved := by simp only [ReservedBitsInv]; decide +kernel
  scan := ⟨by decide, by decide, fun h => (nomatch h)⟩
  times := ⟨by decide, by decide⟩
  cursor := by simp [CursorInv, State.reset, State.resetWith]
  records := by
    intro d h
    simp only [List.mem_singleton] at h
    subst h
    exact ⟨rfl, rfl, by decide +kernel, by decide⟩
  lengths := by
    intro c h
    cases h
    refine ⟨fun cf h => (nomatch h), fun d h => ?_⟩
    simp only [List.mem_singleton] at h
    subst h
    decide

theorem witness_RecordLengthAndTimeLayout :
    ({ State.reset with dfq := [header (hd 0 0) 0x03 [0x0A]] } : State).dfq = header (hd 0 0) 0x03 [0x0A] :: []
    ∧ (header (hd 0 0) 0x03 [0x0A]).payload.length < 2 ^ 16 ∧ (header (hd 0 0) 0x03 [0x0A]).dataOff < 2 ^ 16
    ∧ State.reset.cfg.bufCap = some 65539 := by
  decide +kernel

theorem witness_EveryStepKeepsTheInvariant : ∃ s', Invariant lone ∧ step lone = .next s' := ⟨_, lone_invariant, rfl⟩

/-- Each of the four transitions: `OPEN`, `SCAN_START`, `CLOSE` and the reset input, the source's end. -/
theorem witness_OnlyTheseModeTransitions :
    (∃ s', step (withInputs [.write 0 0 32 1] { State.reset with baud := 9600 }) = .next s' ∧ Mode.idle ≠ s'.mode)
    ∧ (∃ s', step (withInputs [.write 0 0 32 3] State.reset) = .next s' ∧ Mode.idle ≠ s'.mode)
    ∧ (∃ s', step (withInputs [.write 0 0 32 2] (cap [] 0)) = .next s' ∧ Mode.capture ≠ s'.mode)
    ∧ (∃ s', step (withInputs [.hardReset] (cap [] 0)) = .next s' ∧ Mode.capture ≠ s'.mode)
    ∧ (∃ s', step (withInputs [.ended 700] (scn 5 4)) = .next s' ∧ Mode.scan ≠ s'.mode) :=
  ⟨⟨_, rfl, by decide +kernel⟩, ⟨_, rfl, by decide +kernel⟩, ⟨_, rfl, by decide +kernel⟩, ⟨_, rfl, by decide +kernel⟩,
    ⟨_, rfl, by decide +kernel⟩⟩

theorem witness_QueuesAreFirstInFirstOut :
    ∃ s', step (withInputs [.dec] { State.reset with cfq := [⟨v32, 0, false⟩, ⟨v59d, 0, false⟩] }) = .next s'
      ∧ ¬ ResetNext (withInputs [.dec] { State.reset with cfq := [⟨v32, 0, false⟩, ⟨v59d, 0, false⟩] }) :=
  ⟨_, rfl, by simp [ResetNext, withInputs]⟩

theorem witness_NoOperationWritesTime :
    (∃ s', exec (.rxbyte 4011 0x01) (cap v32 0) = .next s') ∧ ∃ s', step (withInputs [.tick 9] (cap v32 0)) = .next s' :=
  ⟨⟨_, rfl⟩, ⟨_, rfl⟩⟩

theorem witness_ConfigurationWritesDoNotReachTheSession (t : Stamp) (x : Byte) :
    Instr.rxbyte t x ∈ [Instr.rxbyte t x, .rxend t, .tick t, .decodeStep, .closeCmd t, .scanCancel t, .recPop t] := by
  simp

theorem witness_StickyFlagsAreForObservationOnly :
    ∃ s', (∀ t r, Instr.rxend 9 ≠ .rd t r) ∧ (∀ t, Instr.rxend 9 ≠ .softReset t) ∧ (∀ t v, Instr.rxend 9 ≠ .wr t .cmd v)
      ∧ (∀ t v, Instr.rxend 9 ≠ .wr t .flags v) ∧ exec (.rxend 9) { cap v32 0 with flags := 0x40 } = .next s'
      ∧ ({ cap v32 0 with flags := 0x40 } : State).flags.getLsbD 6 = true :=
  ⟨_, nofun, nofun, nofun, nofun, rfl, by decide⟩

theorem witness_ByteValuesDoNotCutFrames :
    ∃ s₁ s₂, (cap v32 0).mode = .capture ∧ v59d.length = (cap v32 0).buf.length
      ∧ exec (.rxbyte 4011 0x01) (cap v32 0) = .next s₁
      ∧ exec (.rxbyte 4011 0x02) { cap v32 0 with buf := v59d } = .next s₂ := ⟨_, _, rfl, rfl, rfl, rfl⟩

/-- A scan with a cancel pending and one frame in CFQ. -/
def fair0 : State := { scn 0 0 with cancelReq := true, cfq := [⟨v32, 0, false⟩] }

/-- An endless run from `fair0`: a `TICK` ends the scan, `DEC` takes the frame, then `TICK`s at time 0 for ever. -/
def fairArrivals : Nat → List Input
  | 1 => [.dec]
  | _ => [.tick 0]

/-- The state a step leaves, the same state where it leaves none. -/
def stepped (xs : List Input) (s : State) : State :=
  match step (feed xs s) with
  | .next s' => s'
  | _ => s

/-- The states of that run. -/
def fairRun : Nat → State
  | 0 => fair0
  | 1 => stepped [.tick 0] fair0
  | _ => stepped [.dec] (stepped [.tick 0] fair0)

theorem fairRun_execution : Execution fairArrivals fairRun
  | 0 => rfl
  | 1 => rfl
  | _ + 2 => rfl

theorem witness_FairRunsMakeProgress :
    Execution fairArrivals fairRun ∧ TimeIsSeenToPass fairArrivals fairRun ∧ DecodeIsWeaklyFair fairArrivals fairRun
    ∧ (fairRun 0).mode = .scan ∧ (fairRun 0).cancelReq = true
    ∧ (fairRun 0).tOpen.toNat + (fairRun 0).actWindow.toNat < 2 ^ 64 ∧ (fairRun 0).cfq = ⟨v32, 0, false⟩ :: [] :=
  ⟨fairRun_execution, fun n _ => ⟨n + 2, by omega, .inl (show (fairRun 2).mode ≠ .scan by decide +kernel)⟩,
    fun n => ⟨n + 2, by omega, .inl (show (fairRun 2).cfq = [] by decide +kernel)⟩, rfl, rfl, by decide, rfl⟩

end Sys2Proof.Tests
end

section
/-! PROOFS. The statements of 00_scope.md: what the clock, the parameters and what has yet to arrive do in an
operation and in a step (R6, R8, R10). -/

namespace Sys2Proof.Machine

/-- The part of the state that no operation of the block writes: `TIME` (R6), the parameters (R10), what has
yet to arrive. -/
def ambient (s : State) : Stamp × Config × List Input := (s.time, s.cfg, s.inputs)

theorem ambient_eq_iff (s s' : State) :
    ambient s' = ambient s ↔ s'.time = s.time ∧ s'.cfg = s.cfg ∧ s'.inputs = s.inputs := by
  simp [ambient]

/-! No shared operation writes it. -/

@[simp] theorem ambient_refuse (s : State) : ambient (refuse s) = ambient s := rfl
@[simp] theorem ambient_hardReset (s : State) : ambient (hardReset s) = ambient s := rfl

@[simp] theorem ambient_flush (s : State) : ambient (flush s) = ambient s := by
  obtain ⟨q, f, n, v, h⟩ := flush_shape s
  rw [h]; rfl

@[simp] theorem ambient_reassemble (t : Stamp) (b : Byte) (s : State) : ambient (reassemble t b s) = ambient s := by
  obtain ⟨u, q, f, n, v, h⟩ := reassemble_shape t b s
  rw [h]; rfl

@[simp] theorem ambient_beginCandidate (t : Stamp) (s : State) : ambient (beginCandidate t s) = ambient s := by
  rcases beginCandidate_cases t s with ⟨-, h⟩ | ⟨c, -, h⟩ <;> rw [h] <;> rfl

@[simp] theorem ambient_evaluate (t : Stamp) (s : State) : ambient (evaluate t s) = ambient s := by
  rcases evaluate_cases t s with ⟨-, h⟩ | ⟨-, h⟩ <;> rw [h]
  · rfl
  · exact ambient_beginCandidate t _

@[simp] theorem ambient_scanEvent (t : Stamp) (ev : LineEvent) (s : State) :
    ambient (scanEvent t ev s) = ambient s := by
  rcases scanEvent_cases t ev s with ⟨-, -, h⟩ | ⟨-, -, h⟩ | ⟨-, -, h⟩ | ⟨-, -, -, h⟩ | ⟨-, -, b, -, h⟩ | ⟨-, -, -, h⟩ <;>
    rw [h]
  · rfl
  · rfl
  · exact ambient_evaluate t _
  · exact ambient_evaluate t _
  · exact ambient_reassemble t b s

@[simp] theorem ambient_captureEnded (s : State) : ambient (captureEnded s) = ambient s := ambient_flush s

@[simp] theorem ambient_openCommand (t : Stamp) (s : State) : ambient (openCommand t s) = ambient s := by
  rcases openCommand_cases t s with ⟨-, h⟩ | ⟨-, -, p, -, h⟩ <;> rw [h] <;> rfl

@[simp] theorem ambient_closeCommand (s : State) : ambient (closeCommand s) = ambient s := by
  rcases closeCommand_cases s with ⟨-, h⟩ | ⟨-, h⟩ <;> rw [h]
  · rfl
  · exact ambient_flush s

@[simp] theorem ambient_scanStartCommand (t : Stamp) (s : State) : ambient (scanStartCommand t s) = ambient s := by
  rcases scanStartCommand_cases t s with ⟨-, h⟩ | ⟨-, -, h⟩ <;> rw [h]
  · rfl
  · exact ambient_beginCandidate t _

@[simp] theorem ambient_scanCancelCommand (s : State) : ambient (scanCancelCommand s) = ambient s := by
  rcases scanCancelCommand_cases s with ⟨-, h⟩ | ⟨-, h⟩ <;> rw [h] <;> rfl

@[simp] theorem ambient_recPopCommand (s : State) : ambient (recPopCommand s) = ambient s := by
  rcases recPopCommand_cases s with ⟨-, h⟩ | ⟨d, rest, -, h⟩ <;> rw [h] <;> rfl

@[simp] theorem ambient_softResetCommand (s : State) : ambient (softResetCommand s) = ambient s := by
  unfold softResetCommand
  split <;> rfl

@[simp] theorem ambient_runCommand (t : Stamp) (k : Word) (s : State) : ambient (runCommand t k s) = ambient s := by
  unfold runCommand
  split <;> simp

@[simp] theorem ambient_writeRegister (t : Stamp) (r : Reg) (v : Word) (s : State) :
    ambient (writeRegister t r v s) = ambient s := by
  cases r with
  | cmd => exact ambient_runCommand t v s
  | _ => rfl

@[simp] theorem ambient_afterRead (r : Reg) (s : State) : ambient (afterRead r s) = ambient s := by
  cases r with
  | recData => simp only [afterRead]; split <;> rfl
  | _ => rfl

@[simp] theorem ambient_decodeStage (g : Bool) (d : DecodedFrame) (s : State) :
    ambient (decodeStage g d s) = ambient s := by
  obtain ⟨q, f, h⟩ := decodeStage_shape g d s
  rw [h]; rfl

/-! What an operation answers. -/

/-- What an operation may answer in the state `s`: a next state with the same ambient part, or a refusal because the
decode stage is not enabled (R189) or the action is not emitted (R201 to R204). -/
inductive Answers (s : State) : Host.Outcome State Fault Refusal → Prop where
  | next {s' : State} (h : ambient s' = ambient s) : Answers s (.next s')
  | decodeNotEnabled : Answers s (.refused .decodeNotEnabled)
  | actionNotEmitted (a : SrcAction) : Answers s (.refused (.actionNotEmitted a))

theorem answers_processFrame (form : DecodedFrame → DecodedFrame) (h : FrameHead) (fn : Byte) (p : List Byte)
    (s : State) : Answers s (processFrame form h fn p s) :=
  .next (ambient_decodeStage _ _ s)

theorem answers_execDecodeStep (s : State) : Answers s (execDecodeStep s) := by
  rcases execDecodeStep_cases s with ⟨-, h⟩ | ⟨cf, rest, -, -, h⟩ | ⟨cf, rest, f, -, -, h⟩ <;> rw [h]
  · exact .decodeNotEnabled
  · exact .next rfl
  · exact .next (ambient_decodeStage _ _ _)

theorem answers_execRxbyte (t : Stamp) (b : Byte) (s : State) : Answers s (execRxbyte t b s) := by
  unfold execRxbyte
  refine .next ?_
  cases s.mode with
  | idle => rfl
  | capture => exact ambient_reassemble t b s
  | scan => exact ambient_scanEvent t (.byte b) s

theorem answers_execRxend (t : Stamp) (s : State) : Answers s (execRxend t s) := by
  unfold execRxend
  refine .next ?_
  cases s.mode with
  | idle => rfl
  | capture => exact ambient_captureEnded s
  | scan => exact ambient_scanEvent t .ended s

theorem answers_execTick (t : Stamp) (s : State) : Answers s (execTick t s) := by
  unfold execTick
  refine .next ?_
  cases s.mode with
  | idle => rfl
  | capture => rfl
  | scan => exact ambient_scanEvent t .tick s

/-- An output action answers by whether a line is open (R201 to R204). -/
theorem answers_ifLineOpen (s : State) {o o' : Host.Outcome State Fault Refusal} (h : Answers s o) (h' : Answers s o') :
    Answers s (if s.lineOpen then o else o') := by
  split
  · exact h
  · exact h'

/-- No operation writes `TIME`, the parameters or what has yet to arrive, and none finds fault with the
time. -/
theorem exec_answers (i : Instr) (s : State) : Answers s (exec i s) := by
  cases i with
  | openCmd t => exact .next (ambient_openCommand t s)
  | closeCmd t => exact .next (ambient_closeCommand s)
  | scanStart t => exact .next (ambient_scanStartCommand t s)
  | scanCancel t => exact .next (ambient_scanCancelCommand s)
  | recPop t => exact .next (ambient_recPopCommand s)
  | softReset t => exact .next (ambient_softResetCommand s)
  | cmdIllegal t v => exact .next (ambient_refuse s)
  | rxbyte t b => exact answers_execRxbyte t b s
  | rxend t => exact answers_execRxend t s
  | tick t => exact answers_execTick t s
  | decodeStep => exact answers_execDecodeStep s
  | wr t r v => exact .next (ambient_writeRegister t r v s)
  | rd t r => exact .next (ambient_afterRead r s)
  | srcConfigure c => exact answers_ifLineOpen s (.actionNotEmitted _) (.next rfl)
  | srcOpen => exact answers_ifLineOpen s (.actionNotEmitted _) (.next rfl)
  | srcClose => exact answers_ifLineOpen s (.next rfl) (.actionNotEmitted _)
  | srcDiscard => exact answers_ifLineOpen s (.next rfl) (.actionNotEmitted _)
  | _ => exact answers_processFrame _ _ _ _ s

/-- The next state of an operation has the ambient part it started with. -/
theorem exec_next_ambient {i : Instr} {s s' : State} (h : exec i s = .next s') : ambient s' = ambient s := by
  have ha := exec_answers i s
  rw [h] at ha
  cases ha with
  | next h' => exact h'

/-- Only the step itself refuses an event for its time (R8). -/
theorem exec_ne_clockRunsBack (i : Instr) (s : State) : exec i s ≠ .refused .clockRunsBack := by
  intro h
  have ha := exec_answers i s
  rw [h] at ha
  cases ha

/-! The step and the time of the input that arrives. -/

/-- One tick of `TIME` does not wrap while `TIME` stays below 2^64 (R6). -/
theorem toNat_add_one_of_lt {t : Stamp} (h : t.toNat + 1 < 2 ^ 64) : (t + 1).toNat = t.toNat + 1 := by
  rw [BitVec.toNat_add]
  exact Nat.mod_eq_of_lt h

/-- What the step runs is the input that arrives next. -/
theorem fetch_of_inputs_cons {s : State} {x : Input} {rest : List Input} (h : s.inputs = x :: rest) :
    fetch s = arrive x { s with inputs := rest } := by
  simp only [fetch, h]

/-- An input from before `TIME` has no step (R8). -/
theorem step_of_timeAfter_none {s : State} {x : Input} {rest : List Input} (h : s.inputs = x :: rest)
    (ht : timeAfter x s.time = none) : step s = .refused .clockRunsBack := by
  simp only [step, fetch_of_inputs_cons h, arrive, ht]

/-- An input that is not from before `TIME` is not refused for its time (R8). -/
theorem step_ne_clockRunsBack {s : State} {x : Input} {rest : List Input} {now : Stamp} (h : s.inputs = x :: rest)
    (ht : timeAfter x s.time = some now) : step s ≠ .refused .clockRunsBack := by
  simp only [step, fetch_of_inputs_cons h, arrive, ht]
  cases decodeInput x with
  | ok i => exact exec_ne_clockRunsBack i _
  | error e => cases e <;> simp

/-- The time of an event is its timestamp where that is not below `TIME`, and there is none where it is (R8). -/
theorem timeAfter_of_stamp {x : Input} {t : Stamp} (h : inputStamp x = some t) (now : Stamp) :
    timeAfter x now = if now.toNat ≤ t.toNat then some t else none := by
  simp only [timeAfter, h]

/-- A step on an input leaves `TIME` as the input finds it. -/
theorem step_next_time {s s' : State} {x : Input} {rest : List Input} {t : Stamp} (hi : s.inputs = x :: rest)
    (hx : inputStamp x = some t) (h : step s = .next s') : s'.time = t := by
  rcases step_next_cases h with ⟨hnil, -⟩ | ⟨hnil, -⟩ | ⟨rest', hres, -⟩ | ⟨y, rest', now, i, hcons, ht, -, he⟩
  · simp [hi] at hnil
  · simp [hi] at hnil
  · obtain rfl : x = .hardReset := (List.cons.inj (hi.symm.trans hres)).1
    cases hx
  · obtain rfl : x = y := (List.cons.inj (hi.symm.trans hcons)).1
    obtain ⟨htime, -, -⟩ := (ambient_eq_iff _ _).1 (exec_next_ambient he)
    exact htime.trans (timeAfter_stamp ht hx)

/-- No step turns `TIME` back or writes the parameters. -/
theorem step_next_time_le {s s' : State} (h : step s = .next s') :
    s.time.toNat ≤ s'.time.toNat ∧ s'.cfg = s.cfg := by
  rcases step_next_cases h with ⟨-, -, hlt, rfl⟩ | ⟨-, -, he⟩ | ⟨rest, -, rfl⟩ | ⟨x, rest, now, i, -, ht, -, he⟩
  · exact ⟨(toNat_add_one_of_lt hlt).symm ▸ Nat.le_succ _, rfl⟩
  · obtain ⟨htime, hcfg, -⟩ := (ambient_eq_iff _ _).1 (exec_next_ambient he)
    exact ⟨htime ▸ le_rfl, hcfg⟩
  · exact ⟨le_rfl, rfl⟩
  · obtain ⟨htime, hcfg, -⟩ := (ambient_eq_iff _ _).1 (exec_next_ambient he)
    exact ⟨htime ▸ timeAfter_le ht, hcfg⟩

/-- Settles O7: an event's time is compared with `TIME` before anything runs, and no operation writes `TIME`. -/
theorem timestampsDoNotDecrease : Obligations.TimestampsDoNotDecrease := by
  unfold Obligations.TimestampsDoNotDecrease
  intro s x rest t hi hx
  have ht := timeAfter_of_stamp hx s.time
  constructor
  · intro hlt
    exact step_of_timeAfter_none hi (ht.trans (if_neg hlt.not_ge))
  · intro hle
    exact ⟨step_ne_clockRunsBack hi (ht.trans (if_pos hle)), fun s' h => step_next_time hi hx h⟩

/-- Settles O56, by what every operation answers and the four things a step can be. -/
theorem noOperationWritesTime : Obligations.NoOperationWritesTime := by
  unfold Obligations.NoOperationWritesTime
  exact ⟨fun i s s' h => (ambient_eq_iff s s').1 (exec_next_ambient h), fun s s' h => step_next_time_le h⟩

end Sys2Proof.Machine
end

section
/-! PROOFS. The invariant of 10_state.md holds at reset and every step keeps it. Within an operation `LINE_OPEN`, `MODE`
and the times disagree for a while; what every line of the pseudocode keeps is `Stored`, and `Invariant` is `Stored`
with a session at rest. -/

namespace Sys2Proof.Machine

/-- The part of the invariant that every line of an operation keeps: what the stores, registers and counters hold. -/
structure Stored (s : State) : Prop where
  capacity  : CapacityInv s
  candidate : CandidateInv s
  reserved  : ReservedBitsInv s
  counted   : s.scanValid ≤ s.scanTotal
  candIdx   : s.candIdx ≤ s.cfg.scanCands.length
  cursor    : CursorInv s
  records   : ∀ d ∈ s.dfq, RecordInv d
  lengths   : LengthInv s

/-- While a scan runs the LinkConfig under test is the latched one (R164). -/
def UnderTest (s : State) : Prop :=
  s.mode = .scan → ∃ c, s.cfg.scanCands[s.candIdx]? = some c ∧ s.actBaud = c.baud ∧ s.actLinecfg = linecfgOf c

theorem invariant_iff (s : State) : Invariant s ↔ Stored s ∧ LineInv s ∧ UnderTest s ∧ TimeInv s := by
  constructor
  · intro h
    obtain ⟨hcount, hidx, htest⟩ := h.scan
    exact ⟨{ h with counted := hcount, candIdx := hidx }, h.line, htest, h.times⟩
  · rintro ⟨h, hline, htest, htimes⟩
    exact { h with line := hline, scan := ⟨h.counted, h.candIdx, htest⟩, times := htimes }

theorem Invariant.stored {s : State} (h : Invariant s) : Stored s := ((invariant_iff s).1 h).1

/-- With the line closed and BUF empty nothing is asked of an idle block but `Stored` (R11, R16). -/
theorem Stored.invariant_of_idle {s : State} (h : Stored s) (hm : s.mode = .idle) (hl : s.lineOpen = false)
    (hb : s.buf = []) : Invariant s :=
  (invariant_iff s).2 ⟨h, by simp [LineInv, hm, hl, hb], by simp [UnderTest, hm], by simp [TimeInv, hm, hb]⟩

/-- A session just opened: the line open, BUF empty, `T_OPEN` at `TIME` (R164, R205). -/
theorem Stored.invariant_of_opened {s : State} (h : Stored s) (hm : s.mode ≠ .idle) (hl : s.lineOpen = true)
    (hb : s.buf = []) (ht : s.tOpen = s.time) (hc : UnderTest s) : Invariant s :=
  (invariant_iff s).2 ⟨h, by simp [LineInv, hm, hl], hc, by simp [TimeInv, hb, ht]⟩

/-- An idle block has its line closed (R16). -/
theorem Invariant.lineClosed_of_idle {s : State} (h : Invariant s) (hm : s.mode = .idle) : s.lineOpen = false := by
  obtain ⟨hopen, -⟩ := h.line
  simpa [hm] using hopen

/-- An idle block has an empty BUF (R11). -/
theorem Invariant.buf_of_idle {s : State} (h : Invariant s) (hm : s.mode = .idle) : s.buf = [] := by
  obtain ⟨-, hbuf⟩ := h.line
  exact hbuf (h.lineClosed_of_idle hm)

/-- No Segment of BUF is longer than BUF_CAP. -/
theorem Stored.buf_le {s : State} (h : Stored s) {c : Nat} (hc : s.cfg.bufCap = some c) : s.buf.length ≤ c := by
  obtain ⟨hbuf, -, -⟩ := h.capacity
  exact hbuf c hc

/-! Reserved bits. -/

/-- What is masked has no bit outside the mask. -/
theorem and_mask_and_not (v m : Word) : v &&& m &&& ~~~m = 0 := by
  rw [BitVec.and_assoc, BitVec.and_not_self]
  exact BitVec.and_zero

/-- Every flag lies in the stored bits of `FLAGS` (R73). -/
theorem flagMask_and_not_flagsMask (f : Flag) : flagMask f &&& ~~~flagsMask = 0 := by
  cases f <;> rfl

/-- Words without a bit outside the mask, put together. -/
theorem or_and_not_mask {v w m : Word} (hv : v &&& ~~~m = 0) (hw : w &&& ~~~m = 0) : (v ||| w) &&& ~~~m = 0 := by
  rw [BitVec.and_comm, BitVec.and_or_distrib_left, BitVec.and_comm, hv, BitVec.and_comm, hw]
  exact BitVec.or_zero

/-- The word of a LinkConfig has only the bits of the layout (R71). -/
theorem linecfgOf_and_not_mask (c : LinkConfig) : linecfgOf c &&& ~~~linecfgMask = 0 := by
  unfold linecfgOf
  refine or_and_not_mask (or_and_not_mask ?_ ?_) ?_
  · cases c.dataBits <;> rfl
  · cases c.parity <;> rfl
  · cases c.stopBits <;> rfl

/-! What the shared operations keep. -/

theorem stored_resetWith (cfg : Config) : Stored (State.resetWith cfg) where
  capacity := ⟨fun _ _ => Nat.zero_le _, fun _ _ => Nat.zero_le _, Nat.zero_le _⟩
  candidate := by simp [CandidateInv, State.resetWith]
  reserved := by simp [ReservedBitsInv, State.resetWith, linecfgMask]
  counted := le_rfl
  candIdx := Nat.zero_le _
  cursor := rfl
  records := by simp [State.resetWith]
  lengths := by simp [LengthInv, State.resetWith]

theorem stored_setFlag {s : State} (f : Flag) (h : Stored s) : Stored (setFlag f s) := by
  obtain ⟨hline, hopts, hflags, hact, hfound⟩ := h.reserved
  exact { h with reserved := ⟨hline, hopts, or_and_not_mask hflags (flagMask_and_not_flagsMask f), hact, hfound⟩ }

theorem stored_clearFlags {s : State} (m : Word) (h : Stored s) : Stored (clearFlags m s) := by
  obtain ⟨hline, hopts, hflags, hact, hfound⟩ := h.reserved
  refine { h with reserved := ⟨hline, hopts, ?_, hact, hfound⟩ }
  rw [clearFlags_flags, BitVec.and_assoc, BitVec.and_comm (~~~m), ← BitVec.and_assoc, hflags]
  exact BitVec.zero_and

theorem stored_finish {s : State} (o : ScanOutcome) (h : Stored s) : Stored (finish o s) :=
  stored_setFlag .scanDone (s := { s with scanOutcome := o, mode := .idle }) { h with }

theorem stored_emptyBuf {s : State} (h : Stored s) : Stored { s with buf := [] } := by
  obtain ⟨-, hcfq, hdfq⟩ := h.capacity
  exact { h with capacity := ⟨fun _ _ => Nat.zero_le _, hcfq, hdfq⟩ }

theorem stored_scanCount {s : State} (g : Segment) (h : Stored s) : Stored (scanCount g s) := by
  have hc := h.counted
  refine { h with counted := ?_ }
  simp only [scanCount]
  split <;> omega

/-- CFQ takes a frame of 4 bytes or more that is no longer than BUF (R19, R86). -/
theorem stored_pushCandidate {s : State} {cf : CandidateFrame} (h : Stored s) (h4 : 4 ≤ cf.bytes.length)
    (hlen : ∀ c, s.cfg.bufCap = some c → cf.bytes.length ≤ c) : Stored (pushCandidate cf s) := by
  rcases pushCandidate_cases cf s with ⟨-, e⟩ | ⟨hroom, e⟩ <;> rw [e]
  · exact stored_setFlag .cfqDrop h
  · obtain ⟨hbuf, hcfq, hdfq⟩ := h.capacity
    refine { h with capacity := ⟨hbuf, ?_, hdfq⟩, candidate := ?_, lengths := ?_ }
    · intro c hc
      have hle := hcfq c hc
      have hne : c ≠ s.cfq.length := fun heq => hroom (hc.trans (congrArg some heq))
      simp only [List.length_append, List.length_singleton]
      omega
    · exact List.forall_mem_append.2 ⟨h.candidate, by simpa [minFrame] using h4⟩
    · intro c hc
      obtain ⟨hframes, hrecords⟩ := h.lengths c hc
      exact ⟨List.forall_mem_append.2 ⟨hframes, by simpa using hlen c hc⟩, hrecords⟩

theorem stored_deliver {s : State} {g : Segment} (h : Stored s)
    (hlen : ∀ c, s.cfg.bufCap = some c → g.bytes.length ≤ c) : Stored (deliver g s) := by
  rcases deliver_cases g s with ⟨-, e⟩ | ⟨-, -, e⟩ | ⟨h4, -, e⟩ <;> rw [e]
  · exact stored_setFlag .short h
  · exact stored_scanCount g h
  · exact stored_pushCandidate h h4 hlen

theorem stored_cutSegment {s : State} (h : Stored s) : Stored (cutSegment s) :=
  stored_deliver (stored_emptyBuf h) fun _ hc => h.buf_le hc

theorem stored_flush {s : State} (h : Stored s) : Stored (flush s) := by
  unfold flush
  split
  · exact h
  · exact stored_cutSegment h

theorem stored_boundary {s : State} (t : Stamp) (h : Stored s) : Stored (boundary t s) := by
  rcases boundary_cases t s with ⟨-, -, e⟩ | ⟨-, -, -, e⟩ | ⟨-, e⟩ <;> rw [e]
  · exact stored_cutSegment h
  · exact stored_emptyBuf h
  · exact h

theorem stored_storeByte {s : State} (b : Byte) (h : Stored s) : Stored (storeByte b s) := by
  rcases storeByte_cases b s with ⟨hroom, e⟩ | ⟨-, e⟩ <;> rw [e]
  · obtain ⟨-, hcfq, hdfq⟩ := h.capacity
    refine { h with capacity := ⟨fun c hc => ?_, hcfq, hdfq⟩ }
    simpa using hroom c hc
  · exact stored_setFlag .bufOvf h

theorem stored_setTPrev {s : State} (t : Stamp) (h : Stored s) : Stored { s with tPrev := t } := { h with }

theorem stored_reassemble {s : State} (t : Stamp) (b : Byte) (h : Stored s) : Stored (reassemble t b s) :=
  stored_setTPrev t (stored_storeByte b (stored_boundary t h))

theorem stored_openCandidate {s : State} (t : Stamp) (c : LinkConfig) (h : Stored s) :
    Stored (openCandidate t c s) := by
  obtain ⟨hline, hopts, hflags, -, hfound⟩ := h.reserved
  rw [openCandidate_eq]
  exact { stored_emptyBuf h with
    reserved := ⟨hline, hopts, hflags, linecfgOf_and_not_mask c, hfound⟩, counted := le_rfl }

/-! The decode stage. -/

/-- The data slice of every record starts inside its payload, and the rest of a record is its header (R112 to R124). -/
theorem recordInv_decodeRecord (h : FrameHead) (fn : Byte) (p : List Byte) : RecordInv (decodeRecord h fn p) := by
  rcases decodeRecord_cases h fn p with ⟨-, e⟩ | ⟨-, -, e⟩ | ⟨-, -, e⟩ | ⟨-, -, e⟩ | ⟨-, -, e⟩ <;> rw [e]
  · exact ⟨rfl, rfl, rfl, Nat.min_le_right _ _⟩
  · unfold readFrame
    split
    next hr =>
      have hp : 1 ≤ p.length := by
        simp only [isReadResponse, Bool.and_eq_true, decide_eq_true_eq] at hr
        exact hr.1
      exact ⟨rfl, rfl, rfl, hp⟩
    next => exact ⟨rfl, rfl, rfl, Nat.min_le_right _ _⟩
  · exact ⟨rfl, rfl, rfl, Nat.min_le_right _ _⟩
  · unfold writeMulti
    split
    next h4 => exact ⟨rfl, rfl, rfl, h4.ge⟩
    next =>
      split
      next h5 => exact ⟨rfl, rfl, rfl, h5⟩
      next => exact ⟨rfl, rfl, rfl, Nat.zero_le _⟩
  · exact ⟨rfl, rfl, rfl, Nat.zero_le _⟩

/-- A record keeps its frame's payload, whatever its layout (R112). -/
theorem decodeRecord_payload (h : FrameHead) (fn : Byte) (p : List Byte) : (decodeRecord h fn p).payload = p := by
  rcases decodeRecord_cases h fn p with ⟨-, e⟩ | ⟨-, -, e⟩ | ⟨-, -, e⟩ | ⟨-, -, e⟩ | ⟨-, -, e⟩ <;> rw [e]
  · rfl
  · unfold readFrame; split <;> rfl
  · rfl
  · unfold writeMulti; split
    · rfl
    · split <;> rfl
  · rfl

/-- DFQ takes a record that says what its bytes say and came from a frame no longer than BUF. -/
theorem stored_decodeStage {s : State} {g : Bool} {d : DecodedFrame} (h : Stored s) (hd : RecordInv d)
    (hlen : ∀ c, s.cfg.bufCap = some c → d.payload.length + minFrame ≤ c) : Stored (decodeStage g d s) := by
  rcases decodeStage_cases g d s with ⟨-, -, e⟩ | ⟨-, -, e⟩ | ⟨-, hroom, e⟩ <;> rw [e]
  · exact h
  · exact stored_setFlag .dfqDrop h
  · obtain ⟨hbuf, hcfq, hdfq⟩ := h.capacity
    refine { h with capacity := ⟨hbuf, hcfq, ?_⟩, cursor := ?_, records := ?_, lengths := ?_ }
    · simp only [List.length_append, List.length_singleton]
      omega
    · have hcur := h.cursor
      unfold CursorInv at hcur ⊢
      cases hq : s.dfq with
      | nil => simp_all
      | cons d' rest => simpa [hq] using hcur
    · exact List.forall_mem_append.2 ⟨h.records, by simpa using hd⟩
    · intro c hc
      obtain ⟨hframes, hrecords⟩ := h.lengths c hc
      exact ⟨hframes, List.forall_mem_append.2 ⟨hrecords, by simpa using hlen c hc⟩⟩

/-- CFQ without its head. -/
theorem stored_tail {s : State} {cf : CandidateFrame} {rest : List CandidateFrame} (h : Stored s)
    (hq : s.cfq = cf :: rest) : Stored { s with cfq := rest } := by
  have hsub : ∀ x ∈ rest, x ∈ s.cfq := fun x hx => hq ▸ List.mem_cons_of_mem _ hx
  obtain ⟨hbuf, hcfq, hdfq⟩ := h.capacity
  refine { h with
    capacity := ⟨hbuf, fun c hc => ?_, hdfq⟩
    candidate := fun x hx => h.candidate x (hsub x hx)
    lengths := fun c hc => ?_ }
  · have hle := hcfq c hc
    simp only [hq, List.length_cons] at hle
    exact (Nat.le_succ _).trans hle
  · obtain ⟨hframes, hrecords⟩ := h.lengths c hc
    exact ⟨fun x hx => hframes x (hsub x hx), hrecords⟩

/-! Operations that leave the session alone. -/

/-- What `LineInv`, `UnderTest` and `TimeInv` speak of. -/
def session (s : State) : (Mode × Bool × List Byte) × (Config × Nat × Word × Word) × Stamp × Stamp × Stamp :=
  ((s.mode, s.lineOpen, s.buf), (s.cfg, s.candIdx, s.actBaud, s.actLinecfg), s.tOpen, s.tPrev, s.time)

/-- A session at rest stays at rest when only what is stored changes. -/
theorem Invariant.of_session_eq {s s' : State} (h : Invariant s) (h' : Stored s') (e : session s' = session s) :
    Invariant s' := by
  obtain ⟨-, hline, htest, htimes⟩ := (invariant_iff s).1 h
  simp only [session, Prod.mk.injEq] at e
  obtain ⟨⟨hm, hl, hb⟩, ⟨hc, hi, hab, hal⟩, ho, hp, ht⟩ := e
  refine (invariant_iff s').2 ⟨h', ?_, ?_, ?_⟩
  · simpa only [LineInv, hm, hl, hb] using hline
  · simpa only [UnderTest, hm, hc, hi, hab, hal] using htest
  · simpa only [TimeInv, hm, hb, ho, hp, ht] using htimes

theorem invariant_refuse {s : State} (h : Invariant s) : Invariant (refuse s) :=
  h.of_session_eq (stored_setFlag .cmdRefused h.stored) rfl

theorem invariant_decodeStep {s s' : State} (h : Invariant s) (he : exec .decodeStep s = .next s') :
    Invariant s' := by
  rcases execDecodeStep_cases s with ⟨-, e⟩ | ⟨cf, rest, hq, -, e⟩ | ⟨cf, rest, f, hq, hf, e⟩ <;>
    rw [show exec .decodeStep s = execDecodeStep s from rfl, e] at he
  · cases he
  · obtain rfl := Host.Outcome.next.inj he
    exact h.of_session_eq (stored_tail h.stored hq) rfl
  · obtain rfl := Host.Outcome.next.inj he
    refine h.of_session_eq (stored_decodeStage (stored_tail h.stored hq) (recordInv_decodeRecord _ _ _) ?_) ?_
    · intro c hc
      obtain ⟨hframes, -⟩ := h.lengths c hc
      have hlen : cf.bytes.length ≤ c := hframes cf (hq ▸ List.mem_cons_self)
      rw [decodeRecord_payload]
      rwa [← RtuFrame.bytes_of_parse hf, RtuFrame.length_bytes] at hlen
    · obtain ⟨q, w, e'⟩ := decodeStage_shape cf.inGrace
        (decodeRecord ⟨cf.ts, cf.inGrace, f.address, f.crcLo, f.crcHi⟩ f.function f.payload) { s with cfq := rest }
      rw [e']
      rfl

/-- The cursor advances only past a byte of the payload (R27). -/
theorem stored_afterRead {s : State} (r : Reg) (h : Stored s) : Stored (afterRead r s) := by
  cases r with
  | recData =>
    simp only [afterRead]
    split
    next hb =>
      refine { h with cursor := ?_ }
      unfold cursorByte at hb
      unfold CursorInv
      cases hq : s.dfq with
      | nil => simp [hq] at hb
      | cons d rest =>
        rw [hq] at hb
        obtain ⟨hlt, -⟩ := List.getElem?_eq_some_iff.1 (Option.eq_some_of_isSome hb)
        exact hlt
    next => exact h
  | _ => exact h

theorem session_afterRead (r : Reg) (s : State) : session (afterRead r s) = session s := by
  cases r with
  | recData => simp only [afterRead]; split <;> rfl
  | _ => rfl

theorem stored_setRdata {s : State} (w : Word) (h : Stored s) : Stored { s with rdata := w } := { h with }

theorem invariant_rd {s s' : State} {t : Stamp} {r : Reg} (h : Invariant s) (he : exec (.rd t r) s = .next s') :
    Invariant s' := by
  obtain rfl := Host.Outcome.next.inj he
  exact h.of_session_eq (stored_setRdata _ (stored_afterRead r h.stored)) (session_afterRead r s)

/-- A write other than to `CMD` stores only bits that do not read 0, or clears flags (R208). -/
theorem invariant_writeRegister {s : State} (t : Stamp) {r : Reg} (v : Word) (hr : r ≠ .cmd) (h : Invariant s) :
    Invariant (writeRegister t r v s) := by
  obtain ⟨hline, hopts, hflags, hact, hfound⟩ := h.reserved
  cases r with
  | cmd => exact absurd rfl hr
  | flags => exact h.of_session_eq (stored_clearFlags v h.stored) rfl
  | linecfg =>
    exact h.of_session_eq { h.stored with reserved := ⟨and_mask_and_not v _, hopts, hflags, hact, hfound⟩ } rfl
  | opts =>
    exact h.of_session_eq { h.stored with reserved := ⟨hline, and_mask_and_not v _, hflags, hact, hfound⟩ } rfl
  | baud => exact h.of_session_eq { h.stored with } rfl
  | graceTicks => exact h.of_session_eq { h.stored with } rfl
  | scanWindow => exact h.of_session_eq { h.stored with } rfl
  | _ => exact h

/-- Without the head the cursor starts anew (R207). -/
theorem invariant_recPopCommand {s : State} (h : Invariant s) : Invariant (recPopCommand s) := by
  rcases recPopCommand_cases s with ⟨-, e⟩ | ⟨d, rest, hq, e⟩ <;> rw [e]
  · exact invariant_refuse h
  · have hsub : ∀ x ∈ rest, x ∈ s.dfq := fun x hx => hq ▸ List.mem_cons_of_mem _ hx
    obtain ⟨hbuf, hcfq, hdfq⟩ := h.capacity
    refine h.of_session_eq { h.stored with
      capacity := ⟨hbuf, hcfq, ?_⟩
      cursor := ?_
      records := fun x hx => h.records x (hsub x hx)
      lengths := fun c hc => ?_ } rfl
    · simp only [hq, List.length_cons] at hdfq
      exact (Nat.le_succ _).trans hdfq
    · unfold CursorInv
      cases rest <;> simp
    · obtain ⟨hframes, hrecords⟩ := h.lengths c hc
      exact ⟨hframes, fun x hx => hrecords x (hsub x hx)⟩

theorem invariant_scanCancelCommand {s : State} (h : Invariant s) : Invariant (scanCancelCommand s) := by
  rcases scanCancelCommand_cases s with ⟨-, e⟩ | ⟨-, e⟩ <;> rw [e]
  · exact h.of_session_eq { h.stored with } rfl
  · exact invariant_refuse h

/-! Operations that open, close or feed a session. -/

theorem stored_closed {s : State} (h : Stored s) : Stored { s with lineOpen := false, mode := .idle } := { h with }

theorem stored_emit {s : State} (a : SrcAction) (h : Stored s) : Stored (emit a s) := { h with }

theorem invariant_resetWith (cfg : Config) : Invariant (State.resetWith cfg) :=
  (stored_resetWith cfg).invariant_of_idle rfl rfl rfl

theorem invariant_hardReset (s : State) : Invariant (hardReset s) :=
  Stored.invariant_of_idle { stored_resetWith s.cfg with } rfl rfl rfl

theorem buf_flush (s : State) : (flush s).buf = [] := by
  obtain ⟨q, f, n, v, e⟩ := flush_shape s
  rw [e]

theorem invariant_captureEnded {s : State} (h : Invariant s) : Invariant (captureEnded s) :=
  (stored_setFlag .srcTerm (stored_closed (stored_flush h.stored))).invariant_of_idle rfl rfl (buf_flush s)

theorem invariant_closeCommand {s : State} (h : Invariant s) : Invariant (closeCommand s) := by
  rcases closeCommand_cases s with ⟨-, e⟩ | ⟨-, e⟩ <;> rw [e]
  · exact invariant_refuse h
  · exact (stored_closed (stored_emit .closeSource (stored_flush h.stored))).invariant_of_idle rfl rfl (buf_flush s)

theorem invariant_openCommand {s : State} (h : Invariant s) : Invariant (openCommand s.time s) := by
  rcases openCommand_cases s.time s with ⟨-, e⟩ | ⟨hm, -, p, -, e⟩ <;> rw [e]
  · exact invariant_refuse h
  · obtain ⟨hline, hopts, hflags, -, hfound⟩ := h.reserved
    refine Stored.invariant_of_opened { h.stored with reserved := ⟨hline, hopts, hflags, hline, hfound⟩ }
      (by simp) rfl (h.buf_of_idle hm) rfl (by simp [UnderTest])

/-- A byte ends up in BUF at `TIME`, which is not below the opening (R83, R87). -/
theorem invariant_reassemble {s : State} (b : Byte) (h : Invariant s) (hm : s.mode ≠ .idle) :
    Invariant (reassemble s.time b s) := by
  have hs := stored_reassemble s.time b h.stored
  obtain ⟨-, ⟨hopen, -⟩, htest, htimes, -⟩ := (invariant_iff s).1 h
  obtain ⟨u, q, f, n, v, e⟩ := reassemble_shape s.time b s
  rw [e] at hs ⊢
  have hl := hopen.2 hm
  exact (invariant_iff _).2 ⟨hs, ⟨hopen, by simp [hl]⟩, htest, htimes, fun _ => ⟨htimes hm, le_rfl⟩⟩

/-- The scanner's next candidate, or the end of the scan (R164, R166). -/
theorem invariant_beginCandidate {s : State} (h : Stored s) (hm : s.mode = .scan) (hl : s.lineOpen = false)
    (hb : s.buf = []) : Invariant (beginCandidate s.time s) := by
  rcases beginCandidate_cases s.time s with ⟨-, e⟩ | ⟨c, hc, e⟩ <;> rw [e]
  · exact (stored_finish .exhausted h).invariant_of_idle rfl hl hb
  · exact (stored_openCandidate s.time c h).invariant_of_opened (by simp [hm]) rfl rfl rfl
      fun _ => ⟨c, hc, rfl, rfl⟩

/-- The observation of a candidate in the list is over (R171). -/
theorem invariant_evaluate {s : State} (h : Stored s) (hm : s.mode = .scan) (hl : s.lineOpen = false)
    (hb : s.buf = []) (hi : s.candIdx < s.cfg.scanCands.length) : Invariant (evaluate s.time s) := by
  rcases evaluate_cases s.time s with ⟨-, e⟩ | ⟨-, e⟩ <;> rw [e]
  · obtain ⟨hline, hopts, hflags, hact, -⟩ := h.reserved
    exact (stored_finish .accepted (s := { s with foundBaud := s.actBaud, foundLinecfg := s.actLinecfg })
      { h with reserved := ⟨hline, hopts, hflags, hact, hact⟩ }).invariant_of_idle rfl hl hb
  · exact invariant_beginCandidate (s := { s with candIdx := s.candIdx + 1 }) { h with candIdx := hi } hm hl hb

theorem stored_closeObservation {s : State} (h : Stored s) : Stored (closeObservation s) :=
  { stored_emptyBuf h with }

theorem stored_loseObservation {s : State} (h : Stored s) : Stored (loseObservation s) :=
  { stored_emptyBuf h with }

theorem invariant_scanEvent {s : State} (ev : LineEvent) (h : Invariant s) (hm : s.mode = .scan) :
    Invariant (scanEvent s.time ev s) := by
  have hi : s.candIdx < s.cfg.scanCands.length := by
    obtain ⟨-, -, htest, -⟩ := (invariant_iff s).1 h
    obtain ⟨c, hc, -⟩ := htest hm
    exact (List.getElem?_eq_some_iff.1 hc).1
  have hclose := stored_closeObservation h.stored
  have hlose := stored_loseObservation h.stored
  rcases scanEvent_cases s.time ev s with
    ⟨-, -, e⟩ | ⟨-, -, e⟩ | ⟨-, -, e⟩ | ⟨-, -, -, e⟩ | ⟨-, -, b, -, e⟩ | ⟨-, -, -, e⟩ <;> rw [e]
  · exact (stored_finish .cancelled hlose).invariant_of_idle rfl rfl rfl
  · exact (stored_finish .cancelled hclose).invariant_of_idle rfl rfl rfl
  · exact invariant_evaluate hlose hm rfl rfl hi
  · exact invariant_evaluate hclose hm rfl rfl hi
  · exact invariant_reassemble b h (by simp [hm])
  · exact h

theorem invariant_scanStartCommand {s : State} (h : Invariant s) : Invariant (scanStartCommand s.time s) := by
  rcases scanStartCommand_cases s.time s with ⟨-, e⟩ | ⟨hm, -, e⟩ <;> rw [e]
  · exact invariant_refuse h
  · have hs : Stored { s with
        mode := .scan, candIdx := 0, cancelReq := false, scanOutcome := .none
        actWindow := s.scanWindow, actDiscard := optDiscard s.opts, actGraceEn := false } :=
      { h.stored with candIdx := Nat.zero_le _ }
    exact invariant_beginCandidate hs rfl (h.lineClosed_of_idle hm) (h.buf_of_idle hm)

theorem invariant_runCommand {s : State} (k : Word) (h : Invariant s) : Invariant (runCommand s.time k s) := by
  unfold runCommand
  split
  · exact invariant_openCommand h
  · exact invariant_closeCommand h
  · exact invariant_scanStartCommand h
  · exact invariant_scanCancelCommand h
  · exact invariant_recPopCommand h
  · exact invariant_hardReset _
  · exact invariant_refuse h

/-! The line events in each mode, and the step. -/

theorem invariant_rxbyte {s s' : State} {b : Byte} (h : Invariant s) (he : exec (.rxbyte s.time b) s = .next s') :
    Invariant s' := by
  obtain rfl := Host.Outcome.next.inj he
  cases hm : s.mode with
  | idle => exact h
  | capture => exact invariant_reassemble b h (by simp [hm])
  | scan => exact invariant_scanEvent (.byte b) h hm

theorem invariant_rxend {s s' : State} (h : Invariant s) (he : exec (.rxend s.time) s = .next s') :
    Invariant s' := by
  obtain rfl := Host.Outcome.next.inj he
  cases hm : s.mode with
  | idle => exact h
  | capture => exact invariant_captureEnded h
  | scan => exact invariant_scanEvent .ended h hm

theorem invariant_tick {s s' : State} (h : Invariant s) (he : exec (.tick s.time) s = .next s') : Invariant s' := by
  obtain rfl := Host.Outcome.next.inj he
  cases hm : s.mode with
  | idle => exact h
  | capture => exact h
  | scan => exact invariant_scanEvent .tick h hm

/-- The passing of time and the arrival of an input (R6, R8). -/
theorem invariant_setTime {s : State} {now : Stamp} (rest : List Input) (h : Invariant s)
    (hle : s.time.toNat ≤ now.toNat) : Invariant { s with inputs := rest, time := now } := by
  obtain ⟨hopen, hbuf⟩ := h.times
  refine { h with times := ⟨fun hm => (hopen hm).trans hle, fun hb => ?_⟩ }
  obtain ⟨ho, hp⟩ := hbuf hb
  exact ⟨ho, hp.trans hle⟩

/-- Every operation that an input can be, run at its own time, keeps the invariant. -/
theorem invariant_exec_of_input {s s' : State} {x : Input} {i : Instr} (h : Invariant s)
    (ht : ∀ t, inputStamp x = some t → t = s.time) (hd : decodeInput x = .ok i) (he : exec i s = .next s') :
    Invariant s' := by
  rcases decodeInput_cases hd with ⟨t, b, rfl, rfl⟩ | ⟨t, rfl, rfl⟩ | ⟨t, rfl, rfl⟩ | ⟨rfl, rfl⟩ | ⟨t, v, rfl, rfl⟩ |
      ⟨t, r, v, hr, rfl, rfl⟩ | ⟨t, r, rfl, rfl⟩
  · obtain rfl := ht t rfl
    exact invariant_rxbyte h he
  · obtain rfl := ht t rfl
    exact invariant_rxend h he
  · obtain rfl := ht t rfl
    exact invariant_tick h he
  · exact invariant_decodeStep h he
  · obtain rfl := ht t rfl
    rw [exec_commandInstr] at he
    obtain rfl := Host.Outcome.next.inj he
    exact invariant_runCommand v h
  · obtain rfl := Host.Outcome.next.inj he
    exact invariant_writeRegister t v hr h
  · exact invariant_rd h he

/-- Settles O52: nothing is stored, no session runs, and the reset words have no reserved bit set. -/
theorem resetMeetsTheInvariant : Obligations.ResetMeetsTheInvariant := by
  unfold Obligations.ResetMeetsTheInvariant
  exact invariant_resetWith

/-- Settles O53, by the four things a step can be and what each operation an input can be does to a session. -/
theorem everyStepKeepsTheInvariant : Obligations.EveryStepKeepsTheInvariant := by
  unfold Obligations.EveryStepKeepsTheInvariant
  intro s s' h hstep
  rcases step_next_cases hstep with ⟨-, -, hlt, rfl⟩ | ⟨-, -, he⟩ | ⟨rest, -, rfl⟩ | ⟨x, rest, now, i, -, ht, hd, he⟩
  · exact invariant_setTime s.inputs h ((toNat_add_one_of_lt hlt).symm ▸ Nat.le_succ _)
  · exact invariant_decodeStep h he
  · exact invariant_hardReset _
  · exact invariant_exec_of_input (invariant_setTime rest h (timeAfter_le ht))
      (fun t hx => (timeAfter_stamp ht hx).symm) hd he

end Sys2Proof.Machine
end

section
/-! PROOFS. The sticky flags (10_state.md R23): an operation other than a clearing write, a reset or a read ors a mask
into `FLAGS`, and neither the mask nor anything else it does depends on what `FLAGS` holds. -/

namespace Sys2Proof.Machine

/-- The same state with other flags. -/
def withFlags (f : Word) (s : State) : State := { s with flags := f }

/-- From `s`, whatever its flags, `g` does the same to everything else and ors the same mask into `FLAGS`. -/
def SetsFlags (g : State → State) (s : State) : Prop :=
  ∃ m, ∀ f, g (withFlags f s) = withFlags (f ||| m) (g s)

/-- Two updates that agree on `s` whatever its flags are. -/
theorem SetsFlags.congr {g h : State → State} {s : State} (e : ∀ f, g (withFlags f s) = h (withFlags f s))
    (hh : SetsFlags h s) : SetsFlags g s := by
  obtain ⟨m, hm⟩ := hh
  have hs : g s = h s := e s.flags
  exact ⟨m, fun f => by rw [e, hs, hm]⟩

theorem SetsFlags.of_untouched {g : State → State} {s : State}
    (h : ∀ f, g (withFlags f s) = withFlags f (g s)) : SetsFlags g s :=
  ⟨0, fun f => (h f).trans (congrArg (withFlags · (g s)) BitVec.or_zero.symm)⟩

/-- One line of the pseudocode after another (assumption 7). -/
theorem SetsFlags.comp {g h : State → State} {s : State} (hg : SetsFlags g s) (hh : SetsFlags h (g s)) :
    SetsFlags (fun s => h (g s)) s := by
  obtain ⟨m, hm⟩ := hg
  obtain ⟨k, hk⟩ := hh
  refine ⟨m ||| k, fun f => ?_⟩
  rw [← BitVec.or_assoc, ← hk, ← hm]

/-- A branch on what is not a flag. -/
theorem SetsFlags.ite {c : State → Prop} [∀ s, Decidable (c s)] {g h : State → State} {s : State}
    (hc : ∀ f, c (withFlags f s) ↔ c s) (hg : SetsFlags g s) (hh : SetsFlags h s) :
    SetsFlags (fun s => if c s then g s else h s) s := by
  by_cases hs : c s
  · exact .congr (fun f => if_pos ((hc f).2 hs)) hg
  · exact .congr (fun f => if_neg (mt (hc f).1 hs)) hh

/-! The shared operations. -/

theorem setsFlags_id (s : State) : SetsFlags (fun s => s) s := .of_untouched fun _ => rfl

theorem setsFlags_setFlag (a : Flag) (s : State) : SetsFlags (setFlag a) s := ⟨flagMask a, fun _ => rfl⟩

theorem setsFlags_refuse (s : State) : SetsFlags refuse s := setsFlags_setFlag .cmdRefused s

theorem setsFlags_finish (o : ScanOutcome) (s : State) : SetsFlags (finish o) s := ⟨flagMask .scanDone, fun _ => rfl⟩

theorem setsFlags_pushCandidate (cf : CandidateFrame) (s : State) : SetsFlags (pushCandidate cf) s :=
  .ite (fun _ => Iff.rfl) (setsFlags_setFlag .cfqDrop s) (.of_untouched fun _ => rfl)

/-- A Segment of 4 bytes or more in SCAN is counted (R169). -/
theorem deliver_of_scan {g : Segment} {s : State} (h4 : ¬ g.bytes.length < minFrame) (hm : s.mode = .scan) :
    deliver g s = scanCount g s := by
  simp only [deliver, if_neg h4, hm]

/-- A Segment of 4 bytes or more is pushed when no scan runs (R87). -/
theorem deliver_of_not_scan {g : Segment} {s : State} (h4 : ¬ g.bytes.length < minFrame) (hm : s.mode ≠ .scan) :
    deliver g s = pushCandidate ⟨g.bytes, g.ts, inGraceWindow g.ts s⟩ s := by
  cases h : s.mode with
  | scan => exact absurd h hm
  | _ => simp only [deliver, if_neg h4, h]

theorem setsFlags_deliver (g : Segment) (s : State) : SetsFlags (deliver g) s := by
  by_cases h4 : g.bytes.length < minFrame
  · exact .congr (fun f => if_pos h4) (setsFlags_setFlag .short s)
  · by_cases hm : s.mode = .scan
    · exact .congr (fun f => deliver_of_scan h4 hm) (.of_untouched fun _ => rfl)
    · exact .congr (fun f => deliver_of_not_scan (s := withFlags f s) h4 hm)
        (setsFlags_pushCandidate ⟨g.bytes, g.ts, inGraceWindow g.ts s⟩ s)

theorem setsFlags_cutSegment (s : State) : SetsFlags cutSegment s :=
  setsFlags_deliver (currentSegment s) { s with buf := [] }

theorem setsFlags_flush (s : State) : SetsFlags flush s :=
  .ite (fun _ => Iff.rfl) (setsFlags_id s) (setsFlags_cutSegment s)

theorem setsFlags_boundary (t : Stamp) (s : State) : SetsFlags (boundary t) s :=
  .ite (fun _ => Iff.rfl) (setsFlags_id s) <| .ite (fun _ => Iff.rfl) (setsFlags_cutSegment s) <|
    .ite (fun _ => Iff.rfl) (.of_untouched fun _ => rfl) (setsFlags_id s)

theorem setsFlags_storeByte (b : Byte) (s : State) : SetsFlags (storeByte b) s :=
  .ite (fun _ => Iff.rfl) (.of_untouched fun _ => rfl) (setsFlags_setFlag .bufOvf s)

theorem setsFlags_reassemble (t : Stamp) (b : Byte) (s : State) : SetsFlags (reassemble t b) s :=
  ((setsFlags_boundary t s).comp (setsFlags_storeByte b _)).comp
    (h := fun s => { s with tPrev := t }) (.of_untouched fun _ => rfl)

theorem beginCandidate_of_none {t : Stamp} {s : State} (h : s.cfg.scanCands[s.candIdx]? = none) :
    beginCandidate t s = finish .exhausted s := by
  simp only [beginCandidate, h, raise_exhaustion]

theorem beginCandidate_of_some {t : Stamp} {s : State} {c : LinkConfig} (h : s.cfg.scanCands[s.candIdx]? = some c) :
    beginCandidate t s = openCandidate t c s := by
  simp only [beginCandidate, h]

theorem setsFlags_beginCandidate (t : Stamp) (s : State) : SetsFlags (beginCandidate t) s := by
  cases hc : s.cfg.scanCands[s.candIdx]? with
  | none => exact .congr (fun f => beginCandidate_of_none hc) (setsFlags_finish .exhausted s)
  | some c => exact .congr (fun f => beginCandidate_of_some hc) (.of_untouched fun _ => rfl)

theorem setsFlags_evaluate (t : Stamp) (s : State) : SetsFlags (evaluate t) s :=
  .ite (fun _ => Iff.rfl)
    (setsFlags_finish .accepted { s with foundBaud := s.actBaud, foundLinecfg := s.actLinecfg })
    (setsFlags_beginCandidate t { s with candIdx := s.candIdx + 1 })

theorem setsFlags_scanEvent (t : Stamp) (ev : LineEvent) (s : State) : SetsFlags (scanEvent t ev) s := by
  cases ev with
  | ended =>
    exact .ite (fun _ => Iff.rfl) (setsFlags_finish .cancelled (loseObservation s))
      (setsFlags_evaluate t (loseObservation s))
  | byte b =>
    exact .ite (fun _ => Iff.rfl) (setsFlags_finish .cancelled (closeObservation s)) <|
      .ite (fun _ => Iff.rfl) (setsFlags_evaluate t (closeObservation s)) (setsFlags_reassemble t b s)
  | tick =>
    exact .ite (fun _ => Iff.rfl) (setsFlags_finish .cancelled (closeObservation s)) <|
      .ite (fun _ => Iff.rfl) (setsFlags_evaluate t (closeObservation s)) (setsFlags_id s)

theorem setsFlags_captureEnded (s : State) : SetsFlags captureEnded s :=
  (setsFlags_flush s).comp (h := fun s => setFlag .srcTerm { s with lineOpen := false, mode := .idle })
    (setsFlags_setFlag .srcTerm { flush s with lineOpen := false, mode := .idle })

theorem setsFlags_decodeStage (g : Bool) (d : DecodedFrame) (s : State) : SetsFlags (decodeStage g d) s :=
  .ite (fun _ => Iff.rfl) (setsFlags_id s) <|
    .ite (fun _ => Iff.rfl) (setsFlags_setFlag .dfqDrop s) (.of_untouched fun _ => rfl)

/-! The commands. -/

theorem openCommand_of_refused {t : Stamp} {s : State}
    (h : s.mode ≠ .idle ∨ s.baud = 0 ∨ linecfgParity s.linecfg = none) : openCommand t s = refuse s := by
  rcases openCommand_cases t s with ⟨-, e⟩ | ⟨hm, hb, p, hp, -⟩
  · exact e
  · simp_all

/-- `OPEN` with nothing in the way latches the configuration and opens the line (R205). -/
theorem openCommand_of_accepted {t : Stamp} {s : State} {p : Parity} (hm : s.mode = .idle) (hb : s.baud ≠ 0)
    (hp : linecfgParity s.linecfg = some p) :
    openCommand t s =
      { openSource (emit (.configure ⟨s.baud, linecfgDataBits s.linecfg, p, linecfgStopBits s.linecfg⟩) s) with
        actBaud := s.baud
        actLinecfg := s.linecfg
        actDiscard := optDiscard s.opts
        actGraceEn := optGrace s.opts
        actGraceTicks := s.graceTicks
        tOpen := t
        mode := .capture } := by
  rcases openCommand_cases t s with ⟨h, -⟩ | ⟨-, -, p', hp', e⟩
  · simp_all
  · obtain rfl : p = p' := Option.some.inj (hp.symm.trans hp')
    exact e

theorem setsFlags_openCommand (t : Stamp) (s : State) : SetsFlags (openCommand t) s := by
  by_cases h : s.mode ≠ .idle ∨ s.baud = 0 ∨ linecfgParity s.linecfg = none
  · exact .congr (fun f => openCommand_of_refused h) (setsFlags_refuse s)
  · push Not at h
    obtain ⟨hm, hb, hp⟩ := h
    obtain ⟨p, hp⟩ := Option.ne_none_iff_exists'.1 hp
    refine .of_untouched fun f => ?_
    rw [openCommand_of_accepted hm hb hp, openCommand_of_accepted (s := withFlags f s) hm hb hp]
    rfl

theorem setsFlags_closeCommand (s : State) : SetsFlags closeCommand s :=
  .ite (fun _ => Iff.rfl) (setsFlags_refuse s) <|
    (setsFlags_flush s).comp (h := fun s => { closeSource s with mode := .idle }) (.of_untouched fun _ => rfl)

theorem setsFlags_scanStartCommand (t : Stamp) (s : State) : SetsFlags (scanStartCommand t) s :=
  .ite (fun _ => Iff.rfl) (setsFlags_refuse s) <|
    setsFlags_beginCandidate t
      { s with
        mode := .scan, candIdx := 0, cancelReq := false, scanOutcome := .none
        actWindow := s.scanWindow, actDiscard := optDiscard s.opts, actGraceEn := false }

theorem setsFlags_scanCancelCommand (s : State) : SetsFlags scanCancelCommand s :=
  .ite (fun _ => Iff.rfl) (.of_untouched fun _ => rfl) (setsFlags_refuse s)

theorem recPopCommand_nil {s : State} (h : s.dfq = []) : recPopCommand s = refuse s := by
  simp only [recPopCommand, h]

theorem recPopCommand_cons {s : State} {d : DecodedFrame} {rest : List DecodedFrame} (h : s.dfq = d :: rest) :
    recPopCommand s = { s with dfq := rest, recCur := 0 } := by
  simp only [recPopCommand, h]

theorem setsFlags_recPopCommand (s : State) : SetsFlags recPopCommand s := by
  cases hq : s.dfq with
  | nil => exact .congr (fun f => recPopCommand_nil hq) (setsFlags_refuse s)
  | cons d rest =>
    exact .congr (h := fun s => { s with dfq := rest, recCur := 0 }) (fun f => recPopCommand_cons hq)
      (.of_untouched fun _ => rfl)

/-! The operations. -/

/-- An operation that answers a next state from `s` answers one whatever the flags, with the same mask set. -/
def OpSetsFlags (i : Instr) (s : State) : Prop :=
  ∀ s', exec i s = .next s' → ∃ m, ∀ f, exec i (withFlags f s) = .next (withFlags (f ||| m) s')

theorem SetsFlags.op {i : Instr} {g : State → State} {s : State} (h : SetsFlags g s)
    (e : ∀ f, exec i (withFlags f s) = .next (g (withFlags f s))) : OpSetsFlags i s := by
  intro s' he
  obtain ⟨m, hm⟩ := h
  obtain rfl := Host.Outcome.next.inj ((e s.flags).symm.trans he)
  exact ⟨m, fun f => (e f).trans (congrArg _ (hm f))⟩

theorem opSetsFlags_of_refused {i : Instr} {s : State} {r : Refusal} (e : exec i s = .refused r) :
    OpSetsFlags i s := by
  intro s' he
  rw [e] at he
  cases he

theorem execDecodeStep_of_parse {s : State} {cf : CandidateFrame} {rest : List CandidateFrame} {f : RtuFrame}
    (hq : s.cfq = cf :: rest) (hp : RtuFrame.parse cf.bytes = some f) :
    exec .decodeStep s = .next (decodeStage cf.inGrace
      (decodeRecord ⟨cf.ts, cf.inGrace, f.address, f.crcLo, f.crcHi⟩ f.function f.payload)
      { s with cfq := rest }) := by
  simp only [exec, execDecodeStep, hq, hp]

theorem execDecodeStep_of_short {s : State} {cf : CandidateFrame} {rest : List CandidateFrame}
    (hq : s.cfq = cf :: rest) (hp : RtuFrame.parse cf.bytes = none) :
    exec .decodeStep s = .next { s with cfq := rest } := by
  simp only [exec, execDecodeStep, hq, hp, raise_decodeFault]

theorem execDecodeStep_of_empty {s : State} (hq : s.cfq = []) : exec .decodeStep s = .refused .decodeNotEnabled := by
  simp only [exec, execDecodeStep, hq]

theorem opSetsFlags_decodeStep (s : State) : OpSetsFlags .decodeStep s := by
  cases hq : s.cfq with
  | nil => exact opSetsFlags_of_refused (execDecodeStep_of_empty hq)
  | cons cf rest =>
    cases hp : RtuFrame.parse cf.bytes with
    | none =>
      exact SetsFlags.op (g := fun s => { s with cfq := rest }) (.of_untouched fun _ => rfl)
        fun f => execDecodeStep_of_short hq hp
    | some fr =>
      have hstage : SetsFlags (fun s => decodeStage cf.inGrace
          (decodeRecord ⟨cf.ts, cf.inGrace, fr.address, fr.crcLo, fr.crcHi⟩ fr.function fr.payload)
          { s with cfq := rest }) s :=
        setsFlags_decodeStage cf.inGrace _ { s with cfq := rest }
      exact hstage.op fun f => execDecodeStep_of_parse (s := withFlags f s) hq hp

theorem opSetsFlags_rxbyte (t : Stamp) (b : Byte) (s : State) : OpSetsFlags (.rxbyte t b) s := by
  cases hm : s.mode with
  | idle => exact (setsFlags_id s).op fun f => by simp only [exec, execRxbyte, withFlags, hm]
  | capture => exact (setsFlags_reassemble t b s).op fun f => exec_rxbyte_capture (s := withFlags f s) hm t b
  | scan => exact (setsFlags_scanEvent t (.byte b) s).op fun f => exec_rxbyte_scan (s := withFlags f s) hm t b

theorem opSetsFlags_rxend (t : Stamp) (s : State) : OpSetsFlags (.rxend t) s := by
  cases hm : s.mode with
  | idle => exact (setsFlags_id s).op fun f => by simp only [exec, execRxend, withFlags, hm]
  | capture => exact (setsFlags_captureEnded s).op fun f => exec_rxend_capture (s := withFlags f s) hm t
  | scan => exact (setsFlags_scanEvent t .ended s).op fun f => exec_rxend_scan (s := withFlags f s) hm t

theorem opSetsFlags_tick (t : Stamp) (s : State) : OpSetsFlags (.tick t) s := by
  cases hm : s.mode with
  | scan => exact (setsFlags_scanEvent t .tick s).op fun f => exec_tick_scan (s := withFlags f s) hm t
  | _ => exact (setsFlags_id s).op fun f => by simp only [exec, execTick, withFlags, hm]

/-- An output action is refused by the state of the line or touches no flag (R201 to R204). -/
theorem opSetsFlags_ifLineOpen {i : Instr} {g : State → State} {r : Refusal} {s : State} (b : Bool)
    (e : ∀ s : State, exec i s = if s.lineOpen = b then .next (g s) else .refused r)
    (h : ∀ f, g (withFlags f s) = withFlags f (g s)) : OpSetsFlags i s := by
  by_cases hl : s.lineOpen = b
  · exact (SetsFlags.of_untouched h).op fun f => (e _).trans (if_pos hl)
  · exact opSetsFlags_of_refused ((e s).trans (if_neg hl))

/-- A write to a register other than `CMD` and `FLAGS` leaves the flags alone. -/
theorem opSetsFlags_wr (t : Stamp) {r : Reg} (v : Word) (hcmd : r ≠ .cmd) (hflags : r ≠ .flags) (s : State) :
    OpSetsFlags (.wr t r v) s := by
  refine SetsFlags.op (g := writeRegister t r v) (.of_untouched fun f => ?_) fun _ => rfl
  cases r with
  | cmd => exact absurd rfl hcmd
  | flags => exact absurd rfl hflags
  | _ => rfl

/-- Every operation but a reset, a write of `CMD` or `FLAGS` and a read ors a mask into `FLAGS`, the same one whatever
`FLAGS` holds, and does the same to everything else. -/
theorem opSetsFlags (i : Instr) (s : State) (hreset : ∀ t, i ≠ .softReset t) (hcmd : ∀ t v, i ≠ .wr t .cmd v)
    (hflags : ∀ t v, i ≠ .wr t .flags v) (hrd : ∀ t r, i ≠ .rd t r) : OpSetsFlags i s := by
  cases i with
  | openCmd t => exact (setsFlags_openCommand t s).op fun _ => rfl
  | closeCmd t => exact (setsFlags_closeCommand s).op fun _ => rfl
  | scanStart t => exact (setsFlags_scanStartCommand t s).op fun _ => rfl
  | scanCancel t => exact (setsFlags_scanCancelCommand s).op fun _ => rfl
  | recPop t => exact (setsFlags_recPopCommand s).op fun _ => rfl
  | softReset t => exact absurd rfl (hreset t)
  | cmdIllegal t v => exact (setsFlags_refuse s).op fun _ => rfl
  | rxbyte t b => exact opSetsFlags_rxbyte t b s
  | rxend t => exact opSetsFlags_rxend t s
  | tick t => exact opSetsFlags_tick t s
  | decodeStep => exact opSetsFlags_decodeStep s
  | wr t r v =>
    exact opSetsFlags_wr t v (fun h => hcmd t v (h ▸ rfl)) (fun h => hflags t v (h ▸ rfl)) s
  | rd t r => exact absurd rfl (hrd t r)
  | srcConfigure c =>
    exact opSetsFlags_ifLineOpen (g := emit (.configure c)) false
      (fun s => by cases h : s.lineOpen <;> simp only [exec, execSrcConfigure, h] <;> rfl) fun _ => rfl
  | srcOpen =>
    exact opSetsFlags_ifLineOpen (g := openSource) false
      (fun s => by cases h : s.lineOpen <;> simp only [exec, execSrcOpen, h] <;> rfl) fun _ => rfl
  | srcClose => exact opSetsFlags_ifLineOpen (g := closeSource) true (fun _ => rfl) fun _ => rfl
  | srcDiscard => exact opSetsFlags_ifLineOpen (g := emit .discard) true (fun _ => rfl) fun _ => rfl
  | _ => exact (setsFlags_decodeStage _ _ s).op fun _ => rfl

/-! What the flags are seen to do. -/

/-- An operation that answers a next state does the same to everything else whatever the flags are. -/
def FlagBlind (i : Instr) (s : State) : Prop :=
  ∀ s', exec i s = .next s' → ∀ f, ∃ f', exec i (withFlags f s) = .next (withFlags f' s')

theorem OpSetsFlags.flagBlind {i : Instr} {s : State} (h : OpSetsFlags i s) : FlagBlind i s := by
  intro s' he f
  obtain ⟨m, hm⟩ := h s' he
  exact ⟨f ||| m, hm f⟩

/-- A flag that is set stays set where only a mask is ored in. -/
theorem OpSetsFlags.getLsbD_flags {i : Instr} {s s' : State} (h : OpSetsFlags i s) (he : exec i s = .next s') {k : Nat}
    (hk : s.flags.getLsbD k = true) : s'.flags.getLsbD k = true := by
  obtain ⟨m, hm⟩ := h s' he
  have hs' : s' = withFlags (s.flags ||| m) s' := Host.Outcome.next.inj (he.symm.trans (hm s.flags))
  rw [hs']
  show (s.flags ||| m).getLsbD k = true
  rw [BitVec.getLsbD_or, hk, Bool.true_or]

/-- The reset state does not depend on the flags before (R250). -/
theorem softResetCommand_withFlags (f : Word) (s : State) :
    softResetCommand (withFlags f s) = softResetCommand s := by
  unfold softResetCommand
  cases h : s.lineOpen <;> simp only [withFlags, h] <;> rfl

theorem flagBlind_softReset (t : Stamp) (s : State) : FlagBlind (.softReset t) s := by
  intro s' he f
  obtain rfl := Host.Outcome.next.inj he
  exact ⟨0, congrArg Host.Outcome.next (softResetCommand_withFlags f s)⟩

/-- `FLAGS & ¬m` of other flags (R73). -/
theorem flagBlind_clearFlags (t : Stamp) (v : Word) (s : State) : FlagBlind (.wr t .flags v) s := by
  intro s' he f
  obtain rfl := Host.Outcome.next.inj he
  exact ⟨f &&& ~~~v, rfl⟩

/-- A value written to `CMD` is one of the command operations (R72). -/
theorem exec_wr_cmd (t : Stamp) (v : Word) (s : State) : exec (.wr t .cmd v) s = exec (commandInstr t v) s :=
  (exec_commandInstr t v s).symm

/-- A command operation is no register access. -/
theorem commandInstr_ne_access (t : Stamp) (v : Word) :
    (∀ t' r w, commandInstr t v ≠ .wr t' r w) ∧ ∀ t' r, commandInstr t v ≠ .rd t' r := by
  unfold commandInstr
  split <;> simp

/-- Every operation but a register access. -/
theorem flagBlind_of_not_access {i : Instr} (s : State) (hwr : ∀ t r v, i ≠ .wr t r v) (hrd : ∀ t r, i ≠ .rd t r) :
    FlagBlind i s := by
  by_cases hreset : ∃ t, i = .softReset t
  · obtain ⟨t, rfl⟩ := hreset
    exact flagBlind_softReset t s
  · exact (opSetsFlags i s (fun t h => hreset ⟨t, h⟩) (fun t => hwr t .cmd) (fun t => hwr t .flags) hrd).flagBlind

theorem flagBlind_wr (t : Stamp) (r : Reg) (v : Word) (s : State) : FlagBlind (.wr t r v) s := by
  by_cases hcmd : r = .cmd
  · subst hcmd
    intro s' he f
    obtain ⟨hwr, hrd⟩ := commandInstr_ne_access t v
    rw [exec_wr_cmd] at he ⊢
    exact flagBlind_of_not_access s hwr hrd s' he f
  · by_cases hflags : r = .flags
    · subst hflags
      exact flagBlind_clearFlags t v s
    · exact (opSetsFlags_wr t v hcmd hflags s).flagBlind

/-- Every operation but a read is blind to the flags (R23). -/
theorem flagBlind {i : Instr} (s : State) (hrd : ∀ t r, i ≠ .rd t r) : FlagBlind i s := by
  by_cases hwr : ∃ t r v, i = .wr t r v
  · obtain ⟨t, r, v, rfl⟩ := hwr
    exact flagBlind_wr t r v s
  · exact flagBlind_of_not_access s (fun t r v h => hwr ⟨t, r, v, h⟩) hrd

/-- A read leaves the flags as they are (R209). -/
theorem flags_of_rd {t : Stamp} {r : Reg} {s s' : State} (he : exec (.rd t r) s = .next s') : s'.flags = s.flags := by
  obtain rfl := Host.Outcome.next.inj he
  cases r with
  | recData => simp only [afterRead]; split <;> rfl
  | _ => rfl

/-- Settles O58: outside resets and clearing writes an operation only ors into `FLAGS` a mask that does not depend on
`FLAGS`. -/
theorem stickyFlagsAreForObservationOnly : Obligations.StickyFlagsAreForObservationOnly := by
  unfold Obligations.StickyFlagsAreForObservationOnly
  refine ⟨fun i s s' f hrd he => flagBlind s hrd s' he f, fun i s s' k hreset hcmd hflags he hk => ?_⟩
  by_cases hrd : ∃ t r, i = .rd t r
  · obtain ⟨t, r, rfl⟩ := hrd
    rwa [flags_of_rd he]
  · exact (opSetsFlags i s hreset hcmd hflags fun t r h => hrd ⟨t, r, h⟩).getLsbD_flags he hk

end Sys2Proof.Machine
end

section
/-! PROOFS. What the host reads: the streaming port `REC_DATA` (10_state.md R27), and `STATUS` and `FLAGS` bit by bit
(R25, 30_encoding.md R73). -/

namespace Sys2Proof.Machine

open Sys2Proof.Statement

/-! The record window. -/

theorem cursorByte_cons {s : State} {d : DecodedFrame} {rest : List DecodedFrame} (h : s.dfq = d :: rest) :
    cursorByte s = d.payload[s.recCur]? := by
  simp only [cursorByte, h]

theorem cursorByte_nil {s : State} (h : s.dfq = []) : cursorByte s = none := by
  simp only [cursorByte, h]

theorem windowWord_nil {s : State} (h : s.dfq = []) (view : DecodedFrame → Word) : windowWord view s = 0 := by
  simp only [windowWord, h]

/-- `REC_DATA` with a byte at the cursor (R27). -/
theorem exec_rd_recData_of_some {s : State} {b : Byte} (t : Stamp) (h : cursorByte s = some b) :
    exec (.rd t .recData) s = .next { s with rdata := b.setWidth 32, recCur := s.recCur + 1 } := by
  simp [exec, execRd, afterRead, readRegister, h]

/-- `REC_DATA` with none (R27). -/
theorem exec_rd_recData_of_none {s : State} (t : Stamp) (h : cursorByte s = none) :
    exec (.rd t .recData) s = .next { s with rdata := 0 } := by
  simp [exec, execRd, afterRead, readRegister, h]

/-- A read of any other register returns its word and does nothing else (R45, R209). -/
theorem exec_rd_of_ne_recData {r : Reg} (t : Stamp) (s : State) (hr : r ≠ .recData) :
    exec (.rd t r) s = .next { s with rdata := readRegister r s } := by
  cases r with
  | recData => exact absurd rfl hr
  | _ => rfl

/-- With DFQ empty every register of the record window shows 0 (R27). -/
theorem readRegister_window_nil {s : State} {r : Reg} (h : s.dfq = []) (hr : r ∈ windowRegs) :
    readRegister r s = 0 := by
  simp only [windowRegs, List.mem_cons, List.not_mem_nil, or_false] at hr
  rcases hr with rfl | rfl | rfl | rfl | rfl | rfl | rfl <;> simp [readRegister, windowWord_nil h, cursorByte_nil h]

/-- Settles O47, by whether DFQ has a head and its payload a byte at the cursor. -/
theorem recordWindowStreamsThePayload : Obligations.RecordWindowStreamsThePayload := by
  unfold Obligations.RecordWindowStreamsThePayload
  refine ⟨fun s t d rest hq => ⟨fun b hb => ?_, fun hend => ?_⟩, fun s t hq r hr => ?_⟩
  · exact exec_rd_recData_of_some t ((cursorByte_cons hq).trans hb)
  · exact exec_rd_recData_of_none t ((cursorByte_cons hq).trans (List.getElem?_eq_none hend))
  · by_cases hdata : r = .recData
    · subst hdata
      exact exec_rd_recData_of_none t (cursorByte_nil hq)
    · rw [exec_rd_of_ne_recData t s hdata, readRegister_window_nil hq hr]

/-! `STATUS` and `FLAGS`. -/

/-- A `Bool` shifted to bit `k` of a register. -/
theorem getLsbD_bit_shiftLeft (b : Bool) (k : Nat) {i : Nat} (hi : i < 32) :
    (bit b <<< k).getLsbD i = (decide (i = k) && b) := by
  have hbit : ∀ j, (bit b).getLsbD j = (decide (j = 0) && b) := by
    intro j
    cases b <;> simp [bit]
  have hk : (!decide (i < k) && decide (i - k = 0)) = decide (i = k) := by
    rw [← decide_not, ← Bool.decide_and, decide_eq_decide]
    omega
  rw [BitVec.getLsbD_shiftLeft, hbit, ← hk, decide_eq_true hi, Bool.true_and, Bool.and_assoc]

/-- A word below 4 has no bit above bit 1. -/
theorem getLsbD_eq_false_of_lt_four {w : Word} (hw : w.toNat < 2 ^ 2) {i : Nat} (hi : 2 ≤ i) : w.getLsbD i = false :=
  Nat.testBit_lt_two_pow (hw.trans_le (Nat.pow_le_pow_right Nat.two_pos hi))

/-- The code of `MODE` has two bits (R73). -/
theorem getLsbD_modeCode (m : Mode) {i : Nat} (hi : 2 ≤ i) : (modeCode m).getLsbD i = false :=
  getLsbD_eq_false_of_lt_four (by cases m <;> decide) hi

/-- The code of `SCAN_OUTCOME` has two bits (R73). -/
theorem getLsbD_outcomeCode (o : ScanOutcome) {i : Nat} (hi : 2 ≤ i) : (outcomeCode o).getLsbD i = false :=
  getLsbD_eq_false_of_lt_four (by cases o <;> decide) hi

/-- Bit `i` of `STATUS` (R73). -/
theorem getLsbD_statusWord (s : State) {i : Nat} (hi : i < 32) :
    (statusWord s).getLsbD i =
      ((modeCode s.mode).getLsbD i || (decide (i = 2) && s.lineOpen) || (decide (i = 3) && decide (s.buf ≠ []))
        || (decide (i = 4) && decide (s.cfq ≠ [])) || (decide (i = 5) && decide (s.dfq ≠ []))
        || (decide (6 ≤ i) && (outcomeCode s.scanOutcome).getLsbD (i - 6)) || (decide (i = 8) && s.cancelReq)) := by
  have hout : (outcomeCode s.scanOutcome <<< 6).getLsbD i =
      (decide (6 ≤ i) && (outcomeCode s.scanOutcome).getLsbD (i - 6)) := by
    rw [BitVec.getLsbD_shiftLeft, decide_eq_true hi, Bool.true_and]
    simp only [← decide_not, Nat.not_lt]
  simp only [statusWord, BitVec.getLsbD_or, getLsbD_bit_shiftLeft _ _ hi, hout]

/-- Bits 1:0 of `STATUS` are the mode's (R73). -/
theorem extractLsb'_statusWord_mode (s : State) :
    (statusWord s).extractLsb' 0 2 = (modeCode s.mode).extractLsb' 0 2 := by
  apply BitVec.eq_of_getLsbD_eq
  intro i hi
  have h : i ≠ 2 ∧ i ≠ 3 ∧ i ≠ 4 ∧ i ≠ 5 ∧ ¬ 6 ≤ i ∧ i ≠ 8 := by omega
  rw [BitVec.getLsbD_extractLsb', BitVec.getLsbD_extractLsb', Nat.zero_add, getLsbD_statusWord s (by omega)]
  simp [h]

/-- Bits 7:6 of `STATUS` are the scan outcome's (R73). -/
theorem extractLsb'_statusWord_outcome (s : State) :
    (statusWord s).extractLsb' 6 2 = (outcomeCode s.scanOutcome).extractLsb' 0 2 := by
  apply BitVec.eq_of_getLsbD_eq
  intro i hi
  have h : 6 + i ≠ 2 ∧ 6 + i ≠ 3 ∧ 6 + i ≠ 4 ∧ 6 + i ≠ 5 ∧ 6 + i ≠ 8 := by omega
  rw [BitVec.getLsbD_extractLsb', BitVec.getLsbD_extractLsb', Nat.zero_add, getLsbD_statusWord s (by omega),
    getLsbD_modeCode s.mode (by omega)]
  simp [h]

/-- Bits 31:9 of `STATUS` read 0 (R73). -/
theorem extractLsb'_statusWord_high (s : State) : (statusWord s).extractLsb' 9 23 = 0 := by
  apply BitVec.eq_of_getLsbD_eq
  intro i hi
  have h : 9 + i ≠ 2 ∧ 9 + i ≠ 3 ∧ 9 + i ≠ 4 ∧ 9 + i ≠ 5 ∧ 9 + i ≠ 8 := by omega
  rw [BitVec.getLsbD_extractLsb', getLsbD_statusWord s (by omega), getLsbD_modeCode s.mode (by omega),
    getLsbD_outcomeCode s.scanOutcome (by omega)]
  simp [h]

/-- The stored bits of `FLAGS` are bits 6:0 (R73). -/
theorem getLsbD_flagsMask : ∀ i < 32, flagsMask.getLsbD i = decide (i < 7) := by decide

/-- Bits 6:0 of `FLAGS` as read are the flags (R73). -/
theorem extractLsb'_and_flagsMask_low (w : Word) : (w &&& flagsMask).extractLsb' 0 7 = w.extractLsb' 0 7 := by
  apply BitVec.eq_of_getLsbD_eq
  intro i hi
  rw [BitVec.getLsbD_extractLsb', BitVec.getLsbD_extractLsb', Nat.zero_add, BitVec.getLsbD_and,
    getLsbD_flagsMask i (by omega), decide_eq_true hi, Bool.and_true]

/-- Bits 31:7 of `FLAGS` read 0 (R73). -/
theorem extractLsb'_and_flagsMask_high (w : Word) : (w &&& flagsMask).extractLsb' 7 25 = 0 := by
  apply BitVec.eq_of_getLsbD_eq
  intro i hi
  rw [BitVec.getLsbD_extractLsb', BitVec.getLsbD_and, getLsbD_flagsMask (7 + i) (by omega),
    decide_eq_false (by omega : ¬ 7 + i < 7)]
  simp

/-- Settles O48, from bit `i` of `STATUS` and of the mask of `FLAGS`. -/
theorem statusAndFlagsLayout : Obligations.StatusAndFlagsLayout := by
  unfold Obligations.StatusAndFlagsLayout
  intro s t
  refine ⟨⟨statusWord s, exec_rd_of_ne_recData t s (by decide), ?_, ?_, ?_, ?_, ?_, ?_, ?_, ?_⟩, fun w => rfl,
    ⟨s.flags &&& flagsMask, exec_rd_of_ne_recData t s (by decide), extractLsb'_and_flagsMask_low s.flags,
      extractLsb'_and_flagsMask_high s.flags⟩⟩
  · rw [extractLsb'_statusWord_mode]
    cases s.mode <;> rfl
  · rw [getLsbD_statusWord s (by decide), getLsbD_modeCode s.mode (by decide)]
    simp
  · rw [getLsbD_statusWord s (by decide), getLsbD_modeCode s.mode (by decide), List.length_pos_iff]
    simp
  · rw [getLsbD_statusWord s (by decide), getLsbD_modeCode s.mode (by decide), List.length_pos_iff]
    simp
  · rw [getLsbD_statusWord s (by decide), getLsbD_modeCode s.mode (by decide), List.length_pos_iff]
    simp
  · rw [extractLsb'_statusWord_outcome]
    cases s.scanOutcome <;> rfl
  · rw [getLsbD_statusWord s (by decide), getLsbD_modeCode s.mode (by decide),
      getLsbD_outcomeCode s.scanOutcome (by decide)]
    simp
  · exact extractLsb'_statusWord_high s

end Sys2Proof.Machine
end

section
/-! PROOFS. The statements of 20_memory.md: what a host access may not be and what it leaves alone (R47), and that what
the configuration registers hold does not reach the running session (R51, R18). -/

namespace Sys2Proof.Machine

open Sys2Proof.Statement

/-! Host accesses. -/

/-- An access of another width or alignment, or beyond the map, is decoded to no register (R47). -/
theorem decodeAccess_error {off bits : Nat} (h : bits ≠ 32 ∨ off % 4 ≠ 0 ∨ 0x6C ≤ off) :
    ∃ e, decodeAccess off bits = .error e := by
  cases ha : decodeAccess off bits with
  | error e => exact ⟨e, rfl⟩
  | ok r =>
    obtain ⟨rfl, rfl⟩ := decodeAccess_ok ha
    have hmod := regOffset_mod_four r
    have hle := regOffset_le r
    omega

/-- A write is no operation where its access is decoded to no register. -/
theorem decodeInput_write_error {off bits : Nat} {e : DecodeError} (t : Stamp) (v : Word)
    (h : decodeAccess off bits = .error e) : decodeInput (.write t off bits v) = .error e := by
  simp only [decodeInput, h]

/-- A read is no operation where its access is decoded to no register. -/
theorem decodeInput_read_error {off bits : Nat} {e : DecodeError} (t : Stamp)
    (h : decodeAccess off bits = .error e) : decodeInput (.read t off bits) = .error e := by
  simp only [decodeInput, h]

/-- An input that is no operation and not the reset input has no step (R47). -/
theorem step_of_decodeInput_error {s : State} {x : Input} {rest : List Input} {now : Stamp} {e : DecodeError}
    (hi : s.inputs = x :: rest) (ht : timeAfter x s.time = some now) (hd : decodeInput x = .error e)
    (he : e ≠ .resetInput) : step s = .refused (.undefinedAccess e) := by
  cases e with
  | resetInput => exact absurd rfl he
  | _ => simp only [step, fetch_of_inputs_cons hi, arrive, ht, hd]

/-- A write to a read-only or reserved register changes nothing (R47). -/
theorem writeRegister_of_mem_readOnlyRegs {r : Reg} (hr : r ∈ readOnlyRegs) (t : Stamp) (v : Word) (s : State) :
    writeRegister t r v s = s := by
  cases r with
  | cmd | flags | baud | linecfg | opts | graceTicks | scanWindow => simp [readOnlyRegs] at hr
  | _ => rfl

/-- Settles O8: an unlawful access is decoded to no register, and a lawful one to a reserved or read-only register meets
that register's arm. -/
theorem registerAccessRules : Obligations.RegisterAccessRules := by
  unfold Obligations.RegisterAccessRules
  refine ⟨fun s t off bits v rest hle hbad => ?_, fun s t off hoff => ?_, fun s t v r hr => ?_⟩
  · obtain ⟨e, he⟩ := decodeAccess_error hbad
    have hne := decodeAccess_ne_resetInput he
    have ht : ∀ {x}, inputStamp x = some t → timeAfter x s.time = some t :=
      fun hx => (timeAfter_of_stamp hx s.time).trans (if_pos hle)
    exact ⟨fun hi => ⟨e, step_of_decodeInput_error hi (ht rfl) (decodeInput_write_error t v he) hne⟩,
      fun hi => ⟨e, step_of_decodeInput_error hi (ht rfl) (decodeInput_read_error t he) hne⟩⟩
  · rcases hoff with rfl | rfl
    · exact ⟨.reserved48, rfl, rfl⟩
    · exact ⟨.reserved4C, rfl, rfl⟩
  · exact congrArg Host.Outcome.next (writeRegister_of_mem_readOnlyRegs hr t v s)

/-! The configuration registers. An update of the session commutes with a rewriting of the configuration; an update that
does not branch does so by computation. -/

/-- A branch on what the rewriting `u` leaves alone. -/
theorem commute_ite {u f h : State → State} {c : State → Prop} [∀ s, Decidable (c s)] (hc : ∀ s, c (u s) ↔ c s)
    (hf : Function.Commute f u) (hh : Function.Commute h u) :
    Function.Commute (fun s => if c s then f s else h s) u := by
  intro s
  by_cases hs : c s
  · simp only [if_pos hs, if_pos ((hc s).2 hs), hf s]
  · simp only [if_neg hs, if_neg (mt (hc s).1 hs), hh s]

section
variable {b l o g w : Word}

theorem pushCandidate_withConfig (cf : CandidateFrame) : Function.Commute (pushCandidate cf) (withConfig b l o g w) :=
  commute_ite (fun _ => Iff.rfl) (fun _ => rfl) (fun _ => rfl)

theorem deliver_withConfig (seg : Segment) : Function.Commute (deliver seg) (withConfig b l o g w) := by
  intro s
  by_cases h4 : seg.bytes.length < minFrame
  · simp only [deliver, if_pos h4]; rfl
  · by_cases hm : s.mode = .scan
    · rw [deliver_of_scan h4 hm, deliver_of_scan (s := withConfig b l o g w s) h4 hm]; rfl
    · rw [deliver_of_not_scan h4 hm, deliver_of_not_scan (s := withConfig b l o g w s) h4 hm]
      exact pushCandidate_withConfig _ s

theorem cutSegment_withConfig : Function.Commute cutSegment (withConfig b l o g w) :=
  fun s => deliver_withConfig (currentSegment s) { s with buf := [] }

theorem flush_withConfig : Function.Commute flush (withConfig b l o g w) :=
  commute_ite (fun _ => Iff.rfl) (fun _ => rfl) cutSegment_withConfig

theorem boundary_withConfig (t : Stamp) : Function.Commute (boundary t) (withConfig b l o g w) :=
  commute_ite (fun _ => Iff.rfl) (fun _ => rfl) <| commute_ite (fun _ => Iff.rfl) cutSegment_withConfig <|
    commute_ite (fun _ => Iff.rfl) (fun _ => rfl) (fun _ => rfl)

theorem storeByte_withConfig (x : Byte) : Function.Commute (storeByte x) (withConfig b l o g w) :=
  commute_ite (fun _ => Iff.rfl) (fun _ => rfl) (fun _ => rfl)

theorem reassemble_withConfig (t : Stamp) (x : Byte) : Function.Commute (reassemble t x) (withConfig b l o g w) :=
  have hPrev : Function.Commute (fun s => { s with tPrev := t }) (withConfig b l o g w) := fun _ => rfl
  hPrev.comp_left ((storeByte_withConfig x).comp_left (boundary_withConfig t))

theorem beginCandidate_withConfig (t : Stamp) : Function.Commute (beginCandidate t) (withConfig b l o g w) := by
  intro s
  cases hc : s.cfg.scanCands[s.candIdx]? with
  | none => rw [beginCandidate_of_none hc, beginCandidate_of_none (s := withConfig b l o g w s) hc]; rfl
  | some c => rw [beginCandidate_of_some hc, beginCandidate_of_some (s := withConfig b l o g w s) hc]; rfl

theorem evaluate_withConfig (t : Stamp) : Function.Commute (evaluate t) (withConfig b l o g w) :=
  commute_ite (fun _ => Iff.rfl) (fun _ => rfl)
    fun s => beginCandidate_withConfig t { s with candIdx := s.candIdx + 1 }

theorem scanEvent_withConfig (t : Stamp) (ev : LineEvent) :
    Function.Commute (scanEvent t ev) (withConfig b l o g w) := by
  cases ev with
  | ended =>
    exact commute_ite (fun _ => Iff.rfl) (fun _ => rfl) fun s => evaluate_withConfig t (loseObservation s)
  | byte x =>
    exact commute_ite (fun _ => Iff.rfl) (fun _ => rfl) <|
      commute_ite (fun _ => Iff.rfl) (fun s => evaluate_withConfig t (closeObservation s)) (reassemble_withConfig t x)
  | tick =>
    exact commute_ite (fun _ => Iff.rfl) (fun _ => rfl) <|
      commute_ite (fun _ => Iff.rfl) (fun s => evaluate_withConfig t (closeObservation s)) (fun _ => rfl)

theorem captureEnded_withConfig : Function.Commute captureEnded (withConfig b l o g w) :=
  have hEnd : Function.Commute (fun s => raise .sourceFault { s with lineOpen := false, mode := .idle })
      (withConfig b l o g w) := fun _ => rfl
  hEnd.comp_left flush_withConfig

theorem closeCommand_withConfig : Function.Commute closeCommand (withConfig b l o g w) :=
  have hClose : Function.Commute (fun s => { closeSource s with mode := .idle }) (withConfig b l o g w) :=
    fun _ => rfl
  commute_ite (fun _ => Iff.rfl) (fun _ => rfl) (hClose.comp_left flush_withConfig)

theorem scanCancelCommand_withConfig : Function.Commute scanCancelCommand (withConfig b l o g w) :=
  commute_ite (fun _ => Iff.rfl) (fun _ => rfl) (fun _ => rfl)

theorem recPopCommand_withConfig : Function.Commute recPopCommand (withConfig b l o g w) := by
  intro s
  cases hq : s.dfq with
  | nil => rw [recPopCommand_nil hq, recPopCommand_nil (s := withConfig b l o g w s) hq]; rfl
  | cons d rest => rw [recPopCommand_cons hq, recPopCommand_cons (s := withConfig b l o g w s) hq]; rfl

theorem decodeStage_withConfig (inGrace : Bool) (d : DecodedFrame) :
    Function.Commute (decodeStage inGrace d) (withConfig b l o g w) :=
  commute_ite (fun _ => Iff.rfl) (fun _ => rfl) <| commute_ite (fun _ => Iff.rfl) (fun _ => rfl) (fun _ => rfl)

end

/-! The operations. -/

/-- From `s` the operation does the same to everything else whatever the five configuration registers hold. -/
def ConfigBlind (i : Instr) (s : State) : Prop :=
  ∀ b l o g w, exec i (withConfig b l o g w s) = mapNext (withConfig b l o g w) (exec i s)

/-- An operation that from `s` is an update of the session, whatever the configuration registers hold. -/
theorem ConfigBlind.of_commute {i : Instr} {f : State → State} {s : State}
    (h : ∀ {b l o g w}, Function.Commute f (withConfig b l o g w))
    (e : ∀ b l o g w, exec i (withConfig b l o g w s) = .next (f (withConfig b l o g w s))) : ConfigBlind i s := by
  intro b l o g w
  have hs : exec i s = .next (f s) := e s.baud s.linecfg s.opts s.graceTicks s.scanWindow
  rw [e, hs, h s]
  rfl

/-- In IDLE a byte is ignored (R91). -/
theorem exec_rxbyte_idle {s : State} (h : s.mode = .idle) (t : Stamp) (x : Byte) :
    exec (.rxbyte t x) s = .next s := by
  simp only [exec, execRxbyte, h]

/-- In IDLE the end of a source is ignored (R91). -/
theorem exec_rxend_idle {s : State} (h : s.mode = .idle) (t : Stamp) : exec (.rxend t) s = .next s := by
  simp only [exec, execRxend, h]

/-- Outside a scan `TICK` changes nothing (R92). -/
theorem exec_tick_of_ne_scan {s : State} (h : s.mode ≠ .scan) (t : Stamp) : exec (.tick t) s = .next s := by
  cases hm : s.mode with
  | scan => exact absurd hm h
  | _ => simp only [exec, execTick, hm]

theorem configBlind_rxbyte (t : Stamp) (x : Byte) (s : State) : ConfigBlind (.rxbyte t x) s := by
  cases hm : s.mode with
  | idle => exact .of_commute .id_left fun b l o g w => exec_rxbyte_idle (s := withConfig b l o g w s) hm t x
  | capture =>
    exact .of_commute (reassemble_withConfig t x) fun b l o g w =>
      exec_rxbyte_capture (s := withConfig b l o g w s) hm t x
  | scan =>
    exact .of_commute (scanEvent_withConfig t (.byte x)) fun b l o g w =>
      exec_rxbyte_scan (s := withConfig b l o g w s) hm t x

theorem configBlind_rxend (t : Stamp) (s : State) : ConfigBlind (.rxend t) s := by
  cases hm : s.mode with
  | idle => exact .of_commute .id_left fun b l o g w => exec_rxend_idle (s := withConfig b l o g w s) hm t
  | capture =>
    exact .of_commute captureEnded_withConfig fun b l o g w => exec_rxend_capture (s := withConfig b l o g w s) hm t
  | scan =>
    exact .of_commute (scanEvent_withConfig t .ended) fun b l o g w =>
      exec_rxend_scan (s := withConfig b l o g w s) hm t

theorem configBlind_tick (t : Stamp) (s : State) : ConfigBlind (.tick t) s := by
  by_cases hm : s.mode = .scan
  · exact .of_commute (scanEvent_withConfig t .tick) fun b l o g w =>
      exec_tick_scan (s := withConfig b l o g w s) hm t
  · exact .of_commute .id_left fun b l o g w => exec_tick_of_ne_scan (s := withConfig b l o g w s) hm t

/-- `DECODE_STEP`, by whether CFQ has a head and its bytes are a frame. -/
theorem configBlind_decodeStep (s : State) : ConfigBlind .decodeStep s := by
  cases hq : s.cfq with
  | nil =>
    intro b l o g w
    rw [execDecodeStep_of_empty hq, execDecodeStep_of_empty (s := withConfig b l o g w s) hq]
    rfl
  | cons cf rest =>
    have hpop : ∀ {b l o g w}, Function.Commute (fun s => { s with cfq := rest }) (withConfig b l o g w) :=
      fun _ => rfl
    cases hp : RtuFrame.parse cf.bytes with
    | none => exact .of_commute hpop fun b l o g w => execDecodeStep_of_short (s := withConfig b l o g w s) hq hp
    | some f =>
      exact .of_commute ((decodeStage_withConfig _ _).comp_left hpop) fun b l o g w =>
        execDecodeStep_of_parse (s := withConfig b l o g w s) hq hp

/-- Settles O57: each of the seven operations is an update, or a refusal, that commutes with a rewriting of the
configuration registers. -/
theorem configurationWritesDoNotReachTheSession : Obligations.ConfigurationWritesDoNotReachTheSession := by
  unfold Obligations.ConfigurationWritesDoNotReachTheSession
  intro s b l o g w t x i hi
  simp only [List.mem_cons, List.not_mem_nil, or_false] at hi
  rcases hi with rfl | rfl | rfl | rfl | rfl | rfl | rfl
  · exact configBlind_rxbyte t x s b l o g w
  · exact configBlind_rxend t s b l o g w
  · exact configBlind_tick t s b l o g w
  · exact configBlind_decodeStep s b l o g w
  · exact congrArg Host.Outcome.next (closeCommand_withConfig s)
  · exact congrArg Host.Outcome.next (scanCancelCommand_withConfig s)
  · exact congrArg Host.Outcome.next (recPopCommand_withConfig s)

end Sys2Proof.Machine
end

section
/-! PROOFS. The statements of 30_encoding.md about the decoder and the encoder: they are inverse to each other, and what
selects the frame opcode (R70) and the command (R72). -/

namespace Sys2Proof.Machine

open Sys2Proof.Statement

/-! The frame opcodes: one equation for each line of R70. -/

/-- Priority 1: the exception bit (R70). -/
theorem frameInstr_of_isException {fn : Byte} (he : isException fn = true) (h : FrameHead) (p : List Byte) :
    frameInstr h fn p = .exc h (baseFunction fn) p :=
  if_pos he

@[simp] theorem frameInstr_rd01 (h : FrameHead) (p : List Byte) :
    frameInstr h 0x01#8 p = if isReadResponse p then .rd01Rsp h p else .rd01Req h p := rfl
@[simp] theorem frameInstr_rd02 (h : FrameHead) (p : List Byte) :
    frameInstr h 0x02#8 p = if isReadResponse p then .rd02Rsp h p else .rd02Req h p := rfl
@[simp] theorem frameInstr_rd03 (h : FrameHead) (p : List Byte) :
    frameInstr h 0x03#8 p = if isReadResponse p then .rd03Rsp h p else .rd03Req h p := rfl
@[simp] theorem frameInstr_rd04 (h : FrameHead) (p : List Byte) :
    frameInstr h 0x04#8 p = if isReadResponse p then .rd04Rsp h p else .rd04Req h p := rfl
@[simp] theorem frameInstr_ws05 (h : FrameHead) (p : List Byte) : frameInstr h 0x05#8 p = .ws05 h p := rfl
@[simp] theorem frameInstr_ws06 (h : FrameHead) (p : List Byte) : frameInstr h 0x06#8 p = .ws06 h p := rfl
@[simp] theorem frameInstr_wm0f (h : FrameHead) (p : List Byte) :
    frameInstr h 0x0F#8 p =
      if p.length = 4 then .wm0fRsp h p else if 5 ≤ p.length then .wm0fReq h p else .wm0fUnk h p := rfl
@[simp] theorem frameInstr_wm10 (h : FrameHead) (p : List Byte) :
    frameInstr h 0x10#8 p =
      if p.length = 4 then .wm10Rsp h p else if 5 ≤ p.length then .wm10Req h p else .wm10Unk h p := rfl

/-- The last line: no exception bit and no family of its own (R70). -/
theorem frameInstr_of_not_named {fn : Byte} (he : isException fn = false) (hn : fn.toNat ∉ namedFunctions)
    (h : FrameHead) (p : List Byte) : frameInstr h fn p = .other h (baseFunction fn) p := by
  simp only [frameInstr, he, Bool.false_eq_true, if_false]
  split <;> simp_all [namedFunctions]

/-- The function bytes with a layout of their own (R70). -/
theorem toNat_mem_namedFunctions {fn : Byte} (h : fn.toNat ∈ namedFunctions) :
    fn = 0x01#8 ∨ fn = 0x02#8 ∨ fn = 0x03#8 ∨ fn = 0x04#8 ∨ fn = 0x05#8 ∨ fn = 0x06#8 ∨ fn = 0x0F#8
      ∨ fn = 0x10#8 := by
  simpa [namedFunctions, ← BitVec.toNat_inj] using h

/-- The base function of a byte without the exception bit is the byte (R66). -/
theorem plainByte_baseFunction {fn : Byte} (he : isException fn = false) : plainByte (baseFunction fn) = fn := by
  simpa [he] using (functionByte_eq fn).symm

/-- The base function of a byte with the exception bit is the rest of it (R66). -/
theorem exceptionByte_baseFunction {fn : Byte} (he : isException fn = true) :
    exceptionByte (baseFunction fn) = fn := by
  simpa [he] using (functionByte_eq fn).symm

/-- A frame is read as its function byte and payload select (R61, R70). -/
@[simp] theorem decode_encodeFrame (h : FrameHead) (fn : Byte) (p : List Byte) :
    decode (encodeFrame h fn p) = .ok (frameInstr h fn p) := by
  simp [decode, encodeFrame, decodeFrame]

/-- The operation is well-formed and this code is its encoding. -/
def Encodes (i : Instr) (c : Code) : Prop := wellFormed i = true ∧ encode i = c

/-- The form the read family's response test selects (R62). -/
theorem encodes_readForm {p : List Byte} {rsp req : Instr} {c : Code} (hrsp : isReadResponse p = true → Encodes rsp c)
    (hreq : isReadResponse p = false → Encodes req c) : Encodes (if isReadResponse p then rsp else req) c := by
  cases hr : isReadResponse p with
  | true => exact hrsp hr
  | false => exact hreq hr

/-- The form the payload's length selects in the write-multiple family (R64). -/
theorem encodes_writeMultiForm {n : Nat} {rsp req unk : Instr} {c : Code} (hrsp : n = 4 → Encodes rsp c)
    (hreq : 5 ≤ n → Encodes req c) (hunk : n ≤ 3 → Encodes unk c) :
    Encodes (if n = 4 then rsp else if 5 ≤ n then req else unk) c := by
  split_ifs with h4 h5
  · exact hrsp h4
  · exact hreq h5
  · exact hunk (by omega)

/-- The frame opcode meets its row's condition and is encoded as the frame it was read from. -/
theorem frameInstr_encodes (h : FrameHead) (fn : Byte) (p : List Byte) :
    Encodes (frameInstr h fn p) (encodeFrame h fn p) := by
  cases he : isException fn with
  | true =>
    rw [frameInstr_of_isException he]
    exact ⟨rfl, by rw [encode, exceptionByte_baseFunction he]⟩
  | false =>
    by_cases hn : fn.toNat ∈ namedFunctions
    · rcases toNat_mem_namedFunctions hn with rfl | rfl | rfl | rfl | rfl | rfl | rfl | rfl
      iterate 4 exact encodes_readForm (fun hr => ⟨hr, rfl⟩) fun hr => ⟨congrArg not hr, rfl⟩
      iterate 2 exact ⟨rfl, rfl⟩
      iterate 2
        exact encodes_writeMultiForm (fun hl => ⟨decide_eq_true hl, rfl⟩) (fun hl => ⟨decide_eq_true hl, rfl⟩)
          fun hl => ⟨decide_eq_true hl, rfl⟩
    · have hbyte := plainByte_baseFunction he
      rw [frameInstr_of_not_named he hn]
      refine ⟨decide_eq_true ?_, by rw [encode, hbyte]⟩
      rwa [← toNat_plainByte, hbyte]

/-! The commands and the register accesses. -/

/-- The `CMD` codes (R72). -/
theorem toNat_mem_commandCodes_iff (v : Word) :
    v.toNat ∈ commandCodes ↔ v = 1 ∨ v = 2 ∨ v = 3 ∨ v = 4 ∨ v = 5 ∨ v = 6 := by
  simp [commandCodes, ← BitVec.toNat_inj]

/-- Every other value of `CMD` is illegal (R72). -/
theorem commandInstr_of_not_code {v : Word} (h : v.toNat ∉ commandCodes) (t : Stamp) :
    commandInstr t v = .cmdIllegal t v := by
  unfold commandInstr
  split <;> simp_all [commandCodes]

/-- The command of a value is well-formed and is encoded as the write of that value (R72). -/
theorem commandInstr_encodes (t : Stamp) (v : Word) : Encodes (commandInstr t v) (encodeWrite t .cmd v) := by
  by_cases hv : v.toNat ∈ commandCodes
  · rcases (toNat_mem_commandCodes_iff v).1 hv with rfl | rfl | rfl | rfl | rfl | rfl <;> exact ⟨rfl, rfl⟩
  · rw [commandInstr_of_not_code hv]
    exact ⟨decide_eq_true hv, rfl⟩

/-- A 32-bit write to `CMD` is a command (R72). -/
theorem decode_encodeWrite_cmd (t : Stamp) (v : Word) : decode (encodeWrite t .cmd v) = .ok (commandInstr t v) := rfl

/-- A 32-bit write to any other register is that write (R46, R47). -/
theorem decode_encodeWrite {r : Reg} (hr : r ≠ .cmd) (t : Stamp) (v : Word) :
    decode (encodeWrite t r v) = .ok (.wr t r v) := by
  cases r with
  | cmd => exact absurd rfl hr
  | _ => rfl

/-! Both directions: what is encoded and what is decoded. -/

/-- Settles O2: the function byte, the value written to `CMD` or the offset that an operation is encoded with selects
it, and its row's condition selects the form. -/
theorem decodeOfEncodeIsTheInstruction : Obligations.DecodeOfEncodeIsTheInstruction := by
  unfold Obligations.DecodeOfEncodeIsTheInstruction
  intro i hw
  cases i with
  | rd01Rsp h p | rd02Rsp h p | rd03Rsp h p | rd04Rsp h p =>
    have hr : isReadResponse p = true := hw
    simp [encode, hr]
  | rd01Req h p | rd02Req h p | rd03Req h p | rd04Req h p =>
    have hr : isReadResponse p = false := by simpa [wellFormed] using hw
    simp [encode, hr]
  | wm0fRsp h p | wm10Rsp h p =>
    have hlen : p.length = 4 := of_decide_eq_true hw
    simp [encode, hlen]
  | wm0fReq h p | wm10Req h p =>
    have hlen : 5 ≤ p.length := of_decide_eq_true hw
    simp [encode, hlen, show p.length ≠ 4 by omega]
  | wm0fUnk h p | wm10Unk h p =>
    have hlen : p.length ≤ 3 := of_decide_eq_true hw
    simp [encode, show p.length ≠ 4 by omega, show ¬ 5 ≤ p.length by omega]
  | ws05 h p | ws06 h p => simp [encode]
  | exc h base p => rw [encode, decode_encodeFrame, frameInstr_of_isException (by simp), baseFunction_exceptionByte]
  | other h base p =>
    have hn : (plainByte base).toNat ∉ namedFunctions := (toNat_plainByte base).symm ▸ of_decide_eq_true hw
    rw [encode, decode_encodeFrame, frameInstr_of_not_named (by simp) hn, baseFunction_plainByte]
  | cmdIllegal t v => rw [encode, decode_encodeWrite_cmd, commandInstr_of_not_code (of_decide_eq_true hw)]
  | wr t r v => exact decode_encodeWrite (of_decide_eq_true hw) t v
  | rd t r => simp [encode, decode, decodeInput]
  | srcConfigure c =>
    have hb : c.baud ≠ 0 := of_decide_eq_true hw
    simp only [encode, decode, decodeAction, if_neg hb]
  | openCmd | closeCmd | scanStart | scanCancel | recPop | softReset | rxbyte | rxend | tick | decodeStep | srcOpen
  | srcClose | srcDiscard => rfl

/-- An input that is an operation is the encoding of that operation, a well-formed one. -/
theorem decodeInput_encodes {x : Input} {i : Instr} (h : decodeInput x = .ok i) : Encodes i (.input x) := by
  rcases decodeInput_cases h with ⟨t, b, rfl, rfl⟩ | ⟨t, rfl, rfl⟩ | ⟨t, rfl, rfl⟩ | ⟨rfl, rfl⟩ | ⟨t, v, rfl, rfl⟩
      | ⟨t, r, v, hr, rfl, rfl⟩ | ⟨t, r, rfl, rfl⟩
  iterate 4 exact ⟨rfl, rfl⟩
  · exact commandInstr_encodes t v
  · exact ⟨decide_eq_true hr, rfl⟩
  · exact ⟨rfl, rfl⟩

/-- A CandidateFrame that is a frame is the encoding of its opcode, a well-formed one. -/
theorem decodeFrame_encodes {cf : CandidateFrame} {i : Instr} (h : decodeFrame cf = .ok i) : Encodes i (.frame cf) := by
  unfold decodeFrame at h
  cases hp : RtuFrame.parse cf.bytes with
  | none => simp [hp] at h
  | some f =>
    simp only [hp, Except.ok.injEq] at h
    obtain ⟨hw, he⟩ := frameInstr_encodes ⟨cf.ts, cf.inGrace, f.address, f.crcLo, f.crcHi⟩ f.function f.payload
    rw [h] at hw he
    refine ⟨hw, he.trans ?_⟩
    rw [encodeFrame, RtuFrame.bytes_of_parse hp]

/-- An output action that is an operation is the encoding of that operation, a well-formed one. -/
theorem decodeAction_encodes {a : SrcAction} {i : Instr} (h : decodeAction a = .ok i) : Encodes i (.action a) := by
  cases a with
  | configure c =>
    by_cases hb : c.baud = 0
    · simp [decodeAction, hb] at h
    · simp only [decodeAction, if_neg hb, Except.ok.injEq] at h
      subst h
      exact ⟨decide_eq_true hb, rfl⟩
  | openSource | closeSource | discard =>
    cases h
    exact ⟨rfl, rfl⟩

/-- Settles O3, by the three formats a code has. -/
theorem encodeOfDecodeIsTheCode : Obligations.EncodeOfDecodeIsTheCode := by
  unfold Obligations.EncodeOfDecodeIsTheCode
  intro c i h
  cases c with
  | input x => exact decodeInput_encodes h
  | frame cf => exact decodeFrame_encodes h
  | action a => exact decodeAction_encodes h

/-- A code is decoded to the well-formed operation whose encoding it is. -/
theorem Encodes.decode_eq {c : Code} {i : Instr} (h : Encodes i c) : decode c = .ok i := by
  obtain ⟨hw, rfl⟩ := h
  exact decodeOfEncodeIsTheInstruction i hw

/-- Settles O1: each code is the encoding of the operation it stands for. -/
theorem writtenOutWordsDecode : Obligations.WrittenOutWordsDecode := by
  unfold Obligations.WrittenOutWordsDecode
  exact ⟨Encodes.decode_eq ⟨rfl, rfl⟩, Encodes.decode_eq ⟨rfl, rfl⟩, Encodes.decode_eq ⟨rfl, rfl⟩,
    Encodes.decode_eq ⟨rfl, rfl⟩, Encodes.decode_eq ⟨rfl, rfl⟩, Encodes.decode_eq ⟨rfl, rfl⟩,
    Encodes.decode_eq ⟨rfl, rfl⟩, Encodes.decode_eq ⟨rfl, rfl⟩, rfl, Encodes.decode_eq ⟨rfl, rfl⟩,
    Encodes.decode_eq ⟨rfl, rfl⟩⟩

/-! What selects the frame opcode. -/

/-- The read family's response test, in the spec's words (R62). -/
theorem isReadResponse_iff (p : List Byte) : isReadResponse p = true ↔ ReadResponse p := by
  cases p with
  | nil => simp [isReadResponse, ReadResponse]
  | cons b rest => simp [isReadResponse, ReadResponse, byteAt]

/-- A payload selects between the two forms of the read family (R62). -/
theorem readForm_selection (p : List Byte) (rsp req : Instr) :
    (ReadResponse p → (if isReadResponse p then rsp else req) = rsp)
    ∧ (¬ ReadResponse p → (if isReadResponse p then rsp else req) = req) := by
  rw [← isReadResponse_iff]
  exact ⟨fun h => if_pos h, fun h => if_neg h⟩

/-- A payload's length selects among the three forms of the write-multiple family (R64). -/
theorem writeMultiForm_selection (n : Nat) (rsp req unk : Instr) :
    (n = 4 → (if n = 4 then rsp else if 5 ≤ n then req else unk) = rsp)
    ∧ (5 ≤ n → (if n = 4 then rsp else if 5 ≤ n then req else unk) = req)
    ∧ (n ≤ 3 → (if n = 4 then rsp else if 5 ≤ n then req else unk) = unk) := by
  refine ⟨fun h => if_pos h, fun h => ?_, fun h => ?_⟩
  · rw [if_neg (by omega), if_pos h]
  · rw [if_neg (by omega), if_neg (by omega)]

/-- Settles O4, by the equation of each line of R70; fewer than 4 bytes are not parsed. -/
theorem frameOpcodeSelection : Obligations.FrameOpcodeSelection := by
  unfold Obligations.FrameOpcodeSelection
  refine ⟨fun h fn p => ⟨frameInstr h fn p, decode_encodeFrame h fn p, ?_⟩, fun cf hlen => ?_⟩
  · rw [← isException_eq_getLsbD, ← baseFunction_eq_setWidth]
    refine ⟨fun he => frameInstr_of_isException he h p, ?_, ?_, ?_, ?_, ?_, ?_, ?_, ?_,
      fun he hn => frameInstr_of_not_named he hn h p⟩ <;> rintro rfl
    iterate 4 exact readForm_selection p _ _
    iterate 2 rfl
    iterate 2 exact writeMultiForm_selection p.length _ _ _
  · simp only [decode, decodeFrame, (RtuFrame.parse_eq_none_iff cf.bytes).2 hlen]

/-! A write to `CMD`. -/

/-- An arriving input that is an operation is run, in the state without it and at its time (R186). -/
theorem step_of_decodeInput_ok {s : State} {x : Input} {rest : List Input} {now : Stamp} {i : Instr}
    (hi : s.inputs = x :: rest) (ht : timeAfter x s.time = some now) (hd : decodeInput x = .ok i) :
    step s = exec i { s with inputs := rest, time := now } := by
  simp only [step, fetch_of_inputs_cons hi, arrive, ht, hd]

/-- Settles O42: the step runs the command of the value written, which is one of six or illegal. -/
theorem writingCmdRunsTheCommand : Obligations.WritingCmdRunsTheCommand := by
  unfold Obligations.WritingCmdRunsTheCommand
  intro s t k rest hi hle s₁
  have hd : decodeInput (.write t 0x00 32 k) = .ok (commandInstr t k) := decode_encodeWrite_cmd t k
  rw [step_of_decodeInput_ok hi ((timeAfter_of_stamp rfl s.time).trans (if_pos hle)) hd]
  by_cases hk : k.toNat ∈ commandCodes
  · rcases (toNat_mem_commandCodes_iff k).1 hk with rfl | rfl | rfl | rfl | rfl | rfl <;> rfl
  · rw [commandInstr_of_not_code hk]
    simp only [toNat_mem_commandCodes_iff, not_or] at hk
    obtain ⟨h1, h2, h3, h4, h5, h6⟩ := hk
    rw [if_neg h1, if_neg h2, if_neg h3, if_neg h4, if_neg h5, if_neg h6]
    rfl

end Sys2Proof.Machine
end

section
/-! PROOFS. The layouts of 30_encoding.md: the record window (R74 to R76) and the LinkConfig (R71). A register is the OR
of its fields, each a value put at its lowest bit; what a bit range shows follows from which field it is. -/

namespace Sys2Proof.Machine

/-! Fields of a register. -/

/-- The value `x` at bit `k` of a register. -/
def field {w : Nat} (k : Nat) (x : BitVec w) : Word := x.setWidth 32 <<< k

theorem bit_shiftLeft_eq_field (b : Bool) (k : Nat) : bit b <<< k = field k (BitVec.ofBool b) := by
  cases b <;> rfl

theorem getLsbD_field {w : Nat} (k : Nat) (x : BitVec w) {i : Nat} (hi : i < 32) :
    (field k x).getLsbD i = (decide (k ≤ i) && x.getLsbD (i - k)) := by
  simp [field, hi, ← decide_not]

/-- The bits of a field show its value. -/
@[simp] theorem extractLsb'_field_same {w : Nat} (k : Nat) (x : BitVec w) (h : k + w ≤ 32) :
    (field k x).extractLsb' k w = x := by
  apply BitVec.eq_of_getLsbD_eq
  intro i hi
  rw [BitVec.getLsbD_extractLsb', getLsbD_field k x (by omega)]
  simp [hi]

/-- Bits below or above a field show nothing of it. -/
@[simp] theorem extractLsb'_field_disjoint {w : Nat} (k : Nat) (x : BitVec w) {j n : Nat} (hn : j + n ≤ 32)
    (h : j + n ≤ k ∨ k + w ≤ j) : (field k x).extractLsb' j n = 0 := by
  apply BitVec.eq_of_getLsbD_eq
  intro i hi
  rw [BitVec.getLsbD_extractLsb', getLsbD_field k x (by omega)]
  rcases h with h | h
  · simp [show ¬ k ≤ j + i by omega]
  · simp [BitVec.getLsbD_of_ge x (j + i - k) (by omega)]

/-- Bit `k` of a register is bit 0 of its 1-bit field there. -/
theorem getLsbD_eq_of_extractLsb'_one {v : Word} {k : Nat} {b : Bool} (h : v.extractLsb' k 1 = BitVec.ofBool b) :
    v.getLsbD k = b := by
  simpa using congrArg (·.getLsbD 0) h

/-! The record window. -/

theorem windowWord_cons {s : State} {d : DecodedFrame} {rest : List DecodedFrame} (h : s.dfq = d :: rest)
    (view : DecodedFrame → Word) : windowWord view s = view d := by
  simp only [windowWord, h]

/-- The code of a class has two bits (R74). -/
theorem classCode_shiftLeft_eq_field (c : FrameClass) (k : Nat) :
    classCode c <<< k = field k ((classCode c).setWidth 2) := by
  cases c <;> rfl

/-- `REC_HDR` as its fields (R74). -/
theorem recHdrWord_eq_fields (d : DecodedFrame) :
    recHdrWord d = field 0 d.address ||| field 8 d.function ||| field 16 ((classCode d.cls).setWidth 2)
      ||| field 18 (BitVec.ofBool d.crcValid) ||| field 19 (BitVec.ofBool d.exception)
      ||| field 20 (BitVec.ofBool d.firstReg.isSome) ||| field 21 (BitVec.ofBool d.count.isSome)
      ||| field 22 (BitVec.ofBool d.bcf.isSome) ||| field 23 (BitVec.ofBool d.errorCode.isSome) := by
  rw [recHdrWord, classCode_shiftLeft_eq_field]
  simp only [bit_shiftLeft_eq_field, field, BitVec.shiftLeft_zero]

/-- `REC_F0` as its fields (R75). -/
theorem recF0Word_eq_fields (d : DecodedFrame) :
    recF0Word d = field 0 (d.firstReg.getD 0) ||| field 16 (d.count.getD 0) := by
  simp only [recF0Word, field, BitVec.shiftLeft_zero]

/-- `REC_F1` as its fields (R75). -/
theorem recF1Word_eq_fields (d : DecodedFrame) :
    recF1Word d = field 0 (d.bcf.getD 0) ||| field 8 (d.errorCode.getD 0) ||| field 16 d.crcLo
      ||| field 24 d.crcHi := by
  simp only [recF1Word, field, BitVec.shiftLeft_zero]

/-- `REC_LEN` as its fields (R76). -/
theorem recLenWord_eq_fields (d : DecodedFrame) :
    recLenWord d = field 0 (lengthField d.payload.length) ||| field 16 (lengthField d.dataOff) := by
  simp only [recLenWord, field, BitVec.shiftLeft_zero]

/-- A read of a register of the record window returns the view of the head of DFQ and does nothing else (R27). -/
theorem exec_rd_window {s : State} {d : DecodedFrame} {rest : List DecodedFrame} {r : Reg}
    {view : DecodedFrame → Word} (t : Stamp) (hq : s.dfq = d :: rest) (hr : r ≠ .recData)
    (hview : readRegister r s = windowWord view s) : exec (.rd t r) s = .next { s with rdata := view d } := by
  rw [exec_rd_of_ne_recData t s hr, hview, windowWord_cons hq]

/-- Settles O49, from the three words as their fields. -/
theorem recordHeaderLayout : Obligations.RecordHeaderLayout := by
  unfold Obligations.RecordHeaderLayout
  intro s t d rest hq
  refine ⟨⟨recHdrWord d, exec_rd_window t hq (by decide) rfl, ?_⟩,
    ⟨recF0Word d, exec_rd_window t hq (by decide) rfl, ?_⟩, ⟨recF1Word d, exec_rd_window t hq (by decide) rfl, ?_⟩⟩
  · rw [recHdrWord_eq_fields]
    refine ⟨?_, ?_, Eq.trans (b := (classCode d.cls).setWidth 2) ?_ (by cases d.cls <;> rfl),
      getLsbD_eq_of_extractLsb'_one ?_, getLsbD_eq_of_extractLsb'_one ?_, getLsbD_eq_of_extractLsb'_one ?_,
      getLsbD_eq_of_extractLsb'_one ?_, getLsbD_eq_of_extractLsb'_one ?_, getLsbD_eq_of_extractLsb'_one ?_, ?_⟩ <;>
    simp [BitVec.extractLsb'_or]
  · rw [recF0Word_eq_fields]
    refine ⟨?_, ?_⟩ <;> simp [BitVec.extractLsb'_or]
  · rw [recF1Word_eq_fields]
    refine ⟨?_, ?_, ?_, ?_⟩ <;> simp [BitVec.extractLsb'_or]

/-- A length that fits its 16 bits is shown as it is (R76). -/
theorem toNat_lengthField {n : Nat} (h : n < 2 ^ 16) : (lengthField n).toNat = n := by
  rw [lengthField, if_pos h, BitVec.toNat_ofNat, Nat.mod_eq_of_lt h]

/-- Settles O50, from the word as its fields; a payload is four bytes shorter than BUF_CAP at least, and the data slice
starts inside it. -/
theorem recordLengthAndTimeLayout : Obligations.RecordLengthAndTimeLayout := by
  unfold Obligations.RecordLengthAndTimeLayout
  intro s t d rest hq
  refine ⟨fun hlen hoff => ⟨recLenWord d, exec_rd_window t hq (by decide) rfl, ?_, ?_⟩, fun hinv c hc hcap => ?_, ?_,
    ?_⟩
  · rw [recLenWord_eq_fields]
    simp [BitVec.extractLsb'_or, toNat_lengthField hlen]
  · rw [recLenWord_eq_fields]
    simp [BitVec.extractLsb'_or, toNat_lengthField hoff]
  · have hd : d ∈ s.dfq := hq ▸ List.mem_cons_self
    obtain ⟨-, hpayload⟩ := hinv.lengths c hc
    obtain ⟨-, -, -, hdata⟩ := hinv.records d hd
    have hlen := hpayload d hd
    simp only [minFrame] at hlen
    omega
  · rw [← BitVec.setWidth_eq_extractLsb' (by decide)]
    exact exec_rd_window (r := .recTsLo) (view := fun d => d.ts.setWidth 32) t hq (by decide) rfl
  · rw [← BitVec.setWidth_ushiftRight_eq_extractLsb]
    exact exec_rd_window (r := .recTsHi) (view := fun d => (d.ts >>> 32).setWidth 32) t hq (by decide) rfl

/-! The LinkConfig layout. -/

/-- `DATABITS` (R17). -/
def dataBitsCode : DataBits → BitVec 1
  | .seven => 0
  | .eight => 1

/-- `PARITY` (R17). -/
def parityCode : Parity → BitVec 2
  | .none => 0
  | .even => 1
  | .odd => 2

/-- `STOPBITS` (R17). -/
def stopBitsCode : StopBits → BitVec 1
  | .one => 0
  | .two => 1

/-- The word of a LinkConfig as its fields (R71). -/
theorem linecfgOf_eq_fields (c : LinkConfig) :
    linecfgOf c = field 0 (dataBitsCode c.dataBits) ||| field 1 (parityCode c.parity)
      ||| field 3 (stopBitsCode c.stopBits) := by
  refine congrArg₂ (· ||| ·) (congrArg₂ (· ||| ·) ?_ ?_) ?_
  · cases c.dataBits <;> rfl
  · cases c.parity <;> rfl
  · cases c.stopBits <;> rfl

/-- Bit `i` of the word of a LinkConfig (R71). -/
theorem getLsbD_linecfgOf (c : LinkConfig) {i : Nat} (hi : i < 32) :
    (linecfgOf c).getLsbD i = ((dataBitsCode c.dataBits).getLsbD i
      || (decide (1 ≤ i) && (parityCode c.parity).getLsbD (i - 1))
      || (decide (3 ≤ i) && (stopBitsCode c.stopBits).getLsbD (i - 3))) := by
  simp [linecfgOf_eq_fields, getLsbD_field _ _ hi]

theorem linecfgDataBits_linecfgOf (c : LinkConfig) : linecfgDataBits (linecfgOf c) = c.dataBits := by
  rw [linecfgDataBits, getLsbD_linecfgOf c (by decide)]
  cases c.dataBits <;> rfl

theorem linecfgParity_linecfgOf (c : LinkConfig) : linecfgParity (linecfgOf c) = some c.parity := by
  have h1 : (linecfgOf c).getLsbD 1 = (parityCode c.parity).getLsbD 0 := by
    rw [getLsbD_linecfgOf c (by decide)]; simp
  have h2 : (linecfgOf c).getLsbD 2 = (parityCode c.parity).getLsbD 1 := by
    rw [getLsbD_linecfgOf c (by decide)]; simp
  rw [linecfgParity, h1, h2]
  cases c.parity <;> rfl

theorem linecfgStopBits_linecfgOf (c : LinkConfig) : linecfgStopBits (linecfgOf c) = c.stopBits := by
  have h3 : (linecfgOf c).getLsbD 3 = (stopBitsCode c.stopBits).getLsbD 0 := by
    rw [getLsbD_linecfgOf c (by decide)]; simp
  rw [linecfgStopBits, h3]
  cases c.stopBits <;> rfl

/-- Settles O51: each of the three fields reads back as itself, and none reaches bit 4. -/
theorem linecfgLayoutReadsBack : Obligations.LinecfgLayoutReadsBack := by
  unfold Obligations.LinecfgLayoutReadsBack
  refine fun c => ⟨?_, ?_⟩
  · rw [linkOfRegisters, linecfgParity_linecfgOf, linecfgDataBits_linecfgOf, linecfgStopBits_linecfgOf]
    rfl
  · rw [linecfgOf_eq_fields]
    simp [BitVec.extractLsb'_or]

end Sys2Proof.Machine
end

section
/-! PROOFS. The statements of 40_reassembler.md: what an arriving byte and the end of the source do to BUF, CFQ and
`FLAGS`. Each branch of the boundary handling and of the storing has one equation in the spec's numbers. -/

namespace Sys2Proof.Machine

open Sys2Proof.Statement

/-! The parts of `Reassemble`. -/

theorem isFrameGap_elapsed_iff (s : State) (t : Stamp) :
    isFrameGap (elapsed t s.tPrev) s = true ↔ FrameGap s (gap s t) := isFrameGap_iff _ s

/-- The discard gap of R82, both ends. -/
theorem isDiscardGap_elapsed_iff (s : State) (t : Stamp) :
    isDiscardGap (elapsed t s.tPrev) s = true ↔ DiscardGap s (gap s t) ∧ ¬ FrameGap s (gap s t) :=
  (isDiscardGap_iff _ s).trans (and_congr_right' not_le.symm)

theorem boundary_of_noBoundary {s : State} {t : Stamp} (h : NoBoundary s t) : boundary t s = s := by
  rcases boundary_cases t s with ⟨hb, hf, -⟩ | ⟨hb, hd, hg, -⟩ | ⟨-, e⟩
  · obtain ⟨hnf, -⟩ := h.resolve_left hb
    exact absurd ((isFrameGap_elapsed_iff s t).1 hf) hnf
  · obtain ⟨-, hoff | hnd⟩ := h.resolve_left hb
    · simp [hoff] at hd
    · exact absurd ((isDiscardGap_elapsed_iff s t).1 hg).1 hnd
  · exact e

theorem boundary_of_frameGap {s : State} {t : Stamp} (hb : s.buf ≠ []) (hg : FrameGap s (gap s t)) :
    boundary t s = cutSegment s := by
  rw [boundary, if_neg hb, if_pos ((isFrameGap_elapsed_iff s t).2 hg)]

theorem boundary_of_discardGap {s : State} {t : Stamp} (hb : s.buf ≠ []) (hd : s.actDiscard = true)
    (hg : DiscardGap s (gap s t)) (hf : ¬ FrameGap s (gap s t)) : boundary t s = { s with buf := [] } := by
  rw [boundary, if_neg hb, if_neg (mt (isFrameGap_elapsed_iff s t).1 hf), if_pos]
  rw [hd, (isDiscardGap_elapsed_iff s t).2 ⟨hg, hf⟩]
  rfl

theorem storeByte_of_room {s : State} (b : Byte) (h : Room s s.buf.length) :
    storeByte b s = { s with buf := s.buf ++ [b] } :=
  if_pos ((hasRoom_iff _ _).2 h)

theorem storeByte_of_full {s : State} (b : Byte) (h : s.cfg.bufCap = some s.buf.length) :
    storeByte b s = setFlag .bufOvf s :=
  if_neg fun hr => absurd ((hasRoom_iff _ _).1 hr _ h) (lt_irrefl _)

/-- With room after the boundary handling the byte is appended to what that leaves (R83). -/
theorem reassemble_of_room {s u : State} {t : Stamp} (b : Byte) (hb : boundary t s = u) (hroom : Room u u.buf.length) :
    reassemble t b s = { u with buf := u.buf ++ [b], tPrev := t } :=
  reassemble_eq hb (storeByte_of_room b hroom)

/-- A Segment of fewer than 4 bytes is discarded (R87). -/
theorem deliver_of_short {g : Segment} {s : State} (h : g.bytes.length < minFrame) : deliver g s = setFlag .short s :=
  if_pos h

/-- Outside a scan the cut delivers BUF as the spec's rules say (R84, R86, R87, R188). -/
theorem cutSegment_of_not_scan {s : State} (hm : s.mode ≠ .scan) :
    cutSegment s = { s with buf := [], cfq := (delivered s).1, flags := (delivered s).2 } := by
  unfold cutSegment delivered
  by_cases h4 : s.buf.length < 4
  · rw [if_pos h4, deliver_of_short (g := currentSegment s) h4]
    rfl
  · rw [if_neg h4, deliver_of_not_scan (g := currentSegment s) (s := { s with buf := [] }) h4 hm]
    by_cases hq : s.cfg.cfqDepth = some s.cfq.length
    · rw [if_pos hq, pushCandidate, if_pos ((isFull_iff _ _).2 hq)]
      rfl
    · rw [if_neg hq, pushCandidate, if_neg (mt (isFull_iff _ _).1 hq)]
      rfl

theorem flush_of_not_scan {s : State} (hm : s.mode ≠ .scan) :
    flush s = { s with buf := [], cfq := (flushed s).1, flags := (flushed s).2 } := by
  unfold flush flushed
  by_cases hb : s.buf = []
  · rw [if_pos hb, if_pos hb, ← hb]
  · rw [if_neg hb, if_neg hb, cutSegment_of_not_scan hm]

/-! One byte. -/

/-- The two modes in which a byte goes to the Reassembler (R83, R167). -/
theorem exec_rxbyte_of_reassembled {s : State} {t : Stamp} (h : Reassembled s t) (b : Byte) :
    exec (.rxbyte t b) s = .next (reassemble t b s) := by
  rcases h with hm | ⟨hm, hc, hw⟩
  · exact exec_rxbyte_capture hm t b
  · have hover : windowOver t s = false := decide_eq_false (not_le.2 hw)
    rw [exec_rxbyte_scan hm, scanEvent, hc, hover]
    rfl

/-- Settles O9: the boundary handling and the storing each take their plain branch. -/
theorem byteWithoutBoundaryIsAppended : Obligations.ByteWithoutBoundaryIsAppended := by
  unfold Obligations.ByteWithoutBoundaryIsAppended
  intro s t b hr hn hroom
  rw [exec_rxbyte_of_reassembled hr, reassemble_of_room b (boundary_of_noBoundary hn) hroom]

/-- Settles O10: the boundary handling cuts, and the byte is stored in the empty BUF. -/
theorem captureFrameGapDeliversTheSegment : Obligations.CaptureFrameGapDeliversTheSegment := by
  unfold Obligations.CaptureFrameGapDeliversTheSegment
  intro s t b hm hb hg hroom
  have hcut := (boundary_of_frameGap hb hg).trans (cutSegment_of_not_scan (by simp [hm]))
  rw [exec_rxbyte_capture hm, reassemble_of_room b hcut hroom]
  rfl

/-- Settles O11: the boundary handling empties BUF, and the byte is stored there. -/
theorem discardGapClearsTheBuffer : Obligations.DiscardGapClearsTheBuffer := by
  unfold Obligations.DiscardGapClearsTheBuffer
  intro s t b hr hb hd hg hf hroom
  rw [exec_rxbyte_of_reassembled hr, reassemble_of_room b (boundary_of_discardGap hb hd hg hf) hroom]
  rfl

/-- Settles O12: nothing is cut, and the storing takes its overflow branch. -/
theorem fullBufferDropsTheArrivingByte : Obligations.FullBufferDropsTheArrivingByte := by
  unfold Obligations.FullBufferDropsTheArrivingByte
  intro s t b k hr hn hcap hlen
  rw [exec_rxbyte_of_reassembled hr,
    reassemble_eq (boundary_of_noBoundary hn) (storeByte_of_full b (hcap.trans (congrArg some hlen.symm)))]
  rfl

/-! The bytes of a session (R93). -/

/-- The stamp of the last of the bytes, or `u` where there is none. -/
def lastStamp (u : Stamp) (bytes : List (Stamp × Byte)) : Stamp := (bytes.getLast?.map Prod.fst).getD u

@[simp] theorem lastStamp_nil (u : Stamp) : lastStamp u [] = u := rfl

@[simp] theorem lastStamp_cons (u t : Stamp) (b : Byte) (rest : List (Stamp × Byte)) :
    lastStamp u ((t, b) :: rest) = lastStamp t rest := by
  unfold lastStamp
  rw [List.getLast?_cons]
  cases rest.getLast? <;> rfl

theorem receive_cons {s s' : State} {t : Stamp} {b : Byte} (rest : List (Stamp × Byte))
    (h : exec (.rxbyte t b) s = .next s') : receive ((t, b) :: rest) s = receive rest s' := by
  simp only [receive, h]

theorem room_mono {s : State} {m n : Nat} (h : Room s n) (hmn : m ≤ n) : Room s m :=
  fun k hk => hmn.trans_lt (h k hk)

/-- Bytes below the frame gap gather after what BUF holds, while it has room for all of them. -/
theorem receive_of_close {s : State} (hm : s.mode = .capture) (hd : s.actDiscard = false)
    (bytes : List (Stamp × Byte)) (buf : List Byte) (u : Stamp) (hc : Close s u bytes)
    (hroom : ∀ n < buf.length + bytes.length, Room s n) :
    receive bytes { s with buf := buf, tPrev := u }
      = .next { s with buf := buf ++ bytes.map Prod.snd, tPrev := lastStamp u bytes } := by
  induction bytes generalizing buf u with
  | nil => simp [receive]
  | cons x rest ih =>
    obtain ⟨t, b⟩ := x
    obtain ⟨hgap, hrest⟩ := hc
    have hbyte : exec (.rxbyte t b) { s with buf := buf, tPrev := u }
        = .next { s with buf := buf ++ [b], tPrev := t } :=
      byteWithoutBoundaryIsAppended _ t b (.inl hm) (.inr ⟨hgap, .inl hd⟩) (hroom buf.length (by simp))
    have hroom' : ∀ n < (buf ++ [b]).length + rest.length, Room s n :=
      fun n hn => hroom n (by simp at hn ⊢; omega)
    rw [receive_cons rest hbyte, ih (buf ++ [b]) t hrest hroom']
    simp

theorem delivered_of_short {s : State} (h : s.buf.length < 4) : delivered s = (s.cfq, s.flags ||| 0x04#32) :=
  if_pos h

theorem delivered_of_pushed {s : State} (h : 4 ≤ s.buf.length) (hq : s.cfg.cfqDepth ≠ some s.cfq.length) :
    delivered s = (s.cfq ++ [⟨s.buf, s.tPrev, inGraceWindow s.tPrev s⟩], s.flags) :=
  (if_neg (not_lt.2 h)).trans (if_neg hq)

/-- Settles O13: the bytes gather by induction over the list; the byte after the gap then cuts once (R84). -/
theorem oneGapCutsExactlyOneSegment : Obligations.OneGapCutsExactlyOneSegment := by
  unfold Obligations.OneGapCutsExactlyOneSegment
  intro s t₀ b₀ bytes t b hm hd hroom hbuf hclose all last s₁
  refine ⟨?_, fun hgap => ?_⟩
  · have hfirst : exec (.rxbyte t₀ b₀) s = .next { s with buf := [b₀], tPrev := t₀ } := by
      have h := byteWithoutBoundaryIsAppended s t₀ b₀ (.inl hm) (.inl hbuf) (room_mono hroom (by simp [hbuf]))
      rwa [hbuf] at h
    rw [receive_cons bytes hfirst]
    exact receive_of_close hm hd bytes [b₀] t₀ hclose
      fun n hn => room_mono hroom (by simp at hn; omega)
  · have hcut := captureFrameGapDeliversTheSegment s₁ t b hm (List.cons_ne_nil _ _) hgap
      (room_mono hroom (Nat.zero_le _))
    refine ⟨fun hshort => ?_, fun hlong hq => ⟨inGraceWindow last s₁, ?_⟩⟩
    · rwa [delivered_of_short (s := s₁) hshort] at hcut
    · rwa [delivered_of_pushed (s := s₁) hlong hq] at hcut

/-! The end of the source, the clock, and IDLE. -/

/-- Settles O14: the flush of CAPTURE, then E_D. -/
theorem captureSourceEndFlushesTheTail : Obligations.CaptureSourceEndFlushesTheTail := by
  unfold Obligations.CaptureSourceEndFlushesTheTail
  intro s t hm
  rw [exec_rxend_capture hm, captureEnded, flush_of_not_scan (by simp [hm])]
  rfl

/-- Settles O15: IDLE ignores the line, and `TICK` is the scanner's alone. -/
theorem idleLineAndTickChangeNothing : Obligations.IdleLineAndTickChangeNothing := by
  unfold Obligations.IdleLineAndTickChangeNothing
  refine ⟨fun s t b hm => ⟨exec_rxbyte_idle hm t b, exec_rxend_idle hm t⟩, fun s t hm => exec_tick_of_ne_scan ?_ t⟩
  rcases hm with hm | hm <;> simp [hm]

/-! Byte values (R96). A state is blanked by putting 0 for every byte in BUF and in CFQ; outside a scan the
Reassembler commutes with blanking, so what it does depends on the number of bytes only. -/

/-- The frame with every byte 0. -/
def blankFrame (cf : CandidateFrame) : CandidateFrame := { cf with bytes := List.replicate cf.bytes.length 0 }

/-- The state with every byte of BUF and of the frames in CFQ 0. -/
def blank (s : State) : State :=
  { s with buf := List.replicate s.buf.length 0, cfq := s.cfq.map blankFrame }

@[simp] theorem blank_buf_eq_nil_iff (s : State) : (blank s).buf = [] ↔ s.buf = [] := by simp [blank]

theorem blank_pushCandidate (cf : CandidateFrame) (s : State) :
    blank (pushCandidate cf s) = pushCandidate (blankFrame cf) (blank s) := by
  have hlen : (blank s).cfq.length = s.cfq.length := List.length_map _
  rw [pushCandidate, pushCandidate, apply_ite blank, hlen]
  exact if_congr Iff.rfl rfl (by simp [blank])

theorem blank_cutSegment {s : State} (hm : s.mode ≠ .scan) : blank (cutSegment s) = cutSegment (blank s) := by
  have hlen : (currentSegment (blank s)).bytes.length = s.buf.length := List.length_replicate
  unfold cutSegment
  by_cases h4 : s.buf.length < minFrame
  · rw [deliver_of_short (g := currentSegment s) h4, deliver_of_short (hlen ▸ h4)]
    rfl
  · rw [deliver_of_not_scan (g := currentSegment s) (s := { s with buf := [] }) h4 hm,
      deliver_of_not_scan (s := { blank s with buf := [] }) (hlen ▸ h4) hm]
    exact blank_pushCandidate _ _

theorem blank_boundary {s : State} (hm : s.mode ≠ .scan) (t : Stamp) :
    blank (boundary t s) = boundary t (blank s) := by
  rw [boundary, boundary, apply_ite blank, apply_ite blank, apply_ite blank]
  exact if_congr (blank_buf_eq_nil_iff s).symm rfl <| if_congr Iff.rfl (blank_cutSegment hm) rfl

theorem blank_storeByte (b : Byte) (s : State) : blank (storeByte b s) = storeByte 0 (blank s) := by
  have hlen : (blank s).buf.length = s.buf.length := List.length_replicate
  rw [storeByte, storeByte, apply_ite blank, hlen]
  exact if_congr Iff.rfl (by simp [blank, List.replicate_succ']) rfl

theorem blank_reassemble {s : State} (hm : s.mode ≠ .scan) (t : Stamp) (b : Byte) :
    blank (reassemble t b s) = reassemble t 0 (blank s) := by
  have h : blank (storeByte b (boundary t s)) = storeByte 0 (boundary t (blank s)) := by
    rw [blank_storeByte, blank_boundary hm]
  exact congrArg (fun s => { s with tPrev := t }) h

/-- What two states with the same blanking agree on. -/
theorem eq_of_blank_eq {s₁ s₂ : State} (h : blank s₁ = blank s₂) :
    s₂ = { s₁ with buf := s₂.buf, cfq := s₂.cfq } :=
  (congrArg (fun s => { s with buf := s₂.buf, cfq := s₂.cfq }) h).symm

/-- Settles O59: both runs are, blanked, the run of the blanked state. -/
theorem byteValuesDoNotCutFrames : Obligations.ByteValuesDoNotCutFrames := by
  unfold Obligations.ByteValuesDoNotCutFrames
  intro s s₁ s₂ t b b' buf' hm hlen h₁ h₂
  have hs : s.mode ≠ .scan := by simp [hm]
  rw [exec_rxbyte_capture hm] at h₁
  rw [exec_rxbyte_capture (s := { s with buf := buf' }) hm] at h₂
  cases h₁
  cases h₂
  have hblank : blank { s with buf := buf' } = blank s := by simp [blank, hlen]
  have h : blank (reassemble t b s) = blank (reassemble t b' { s with buf := buf' }) := by
    rw [blank_reassemble hs, blank_reassemble (s := { s with buf := buf' }) hs, hblank]
  generalize reassemble t b s = s₁ at h ⊢
  generalize reassemble t b' { s with buf := buf' } = s₂ at h ⊢
  refine ⟨?_, ?_, (congrArg State.flags h :), ?_, eq_of_blank_eq h⟩
  · simpa [blank] using congrArg (·.buf.length) h
  · simpa [blank] using congrArg (·.cfq.length) h
  · simpa [blank, blankFrame, Function.comp_def] using
      congrArg (fun s => s.cfq.map fun cf => (cf.bytes.length, cf.ts, cf.inGrace)) h

end Sys2Proof.Machine
end

section
/-! PROOFS. The statements of 41_crc.md: the algorithm and the order of its bytes (R101, R102), the CRC of a message with
its own CRC (R105), and what `crcValid` says of a record (R103, R104). -/

namespace Sys2Proof.Machine

open Sys2Proof.Statement

/-! The transmitted bytes. -/

theorem crcLowByte_eq_extractLsb' (c : Half) : crcLowByte c = c.extractLsb' 0 8 :=
  BitVec.setWidth_eq_extractLsb' (by decide)

theorem crcHighByte_eq_extractLsb' (c : Half) : crcHighByte c = c.extractLsb' 8 8 := by
  ext i hi
  simp [crcHighByte, Nat.add_comm]

theorem crc16_withCrc (m : List Byte) :
    crc16 (withCrc m) = crcStep (crcStep (crc16 m) (crcLowByte (crc16 m))) (crcHighByte (crc16 m)) := by
  rw [withCrc, List.append_cons, crc16_append, crc16_append]

/-- Settles O16: the recursion is the byte step carried along the message, and the examples are computed. -/
theorem crcAlgorithmAndTransmission : Obligations.CrcAlgorithmAndTransmission := by
  unfold Obligations.CrcAlgorithmAndTransmission
  refine ⟨rfl, crc16_append, by decide +kernel, by decide +kernel, fun m => ?_, by decide +kernel⟩
  exact ⟨_, _, rfl, crcLowByte_eq_extractLsb' _, crcHighByte_eq_extractLsb' _⟩

/-! The residue (R105). -/

theorem crcShift_of_even {c : Half} (h : c.getLsbD 0 = false) : crcShift c = c >>> 1 :=
  if_neg (Bool.eq_false_iff.1 h)

/-- As long as the bits shifted out are 0, the polynomial is never XORed in. -/
theorem crcShifts_of_low_zero {k : Nat} {c : Half} (h : ∀ i < k, c.getLsbD i = false) :
    crcShifts k c = c >>> k := by
  induction k generalizing c with
  | zero => simp [crcShifts]
  | succ k ih =>
    have hlow : ∀ i < k, (c >>> 1).getLsbD i = false := fun i hi => by
      rw [BitVec.getLsbD_ushiftRight]
      exact h _ (by omega)
    rw [crcShifts, crcShift_of_even (h 0 k.succ_pos), ih hlow, ← BitVec.shiftRight_add, Nat.add_comm]

/-- The low byte of the running value cancels it in bits 7:0, and leaves the high byte. -/
theorem crcStep_crcLowByte (c : Half) : crcStep c (crcLowByte c) = c >>> 8 := by
  have hlow : ∀ i < 8, (c ^^^ (crcLowByte c).setWidth 16).getLsbD i = false := fun i hi => by
    have hi16 : i < 16 := by omega
    simp [crcLowByte, hi, hi16]
  rw [crcStep, crcShifts_of_low_zero hlow]
  ext i hi
  simp [crcLowByte]

theorem crcStep_setWidth_self (b : Byte) : crcStep (b.setWidth 16) b = 0 := by
  rw [crcStep, BitVec.xor_self, crcShifts_of_low_zero (by simp)]
  rfl

theorem setWidth_crcHighByte (c : Half) : (crcHighByte c).setWidth 16 = c >>> 8 := by
  ext i hi
  have hbit : c.getLsbD (8 + i) = true → i < 8 := fun h => by
    have := BitVec.lt_of_getLsbD h
    omega
  simpa [crcHighByte] using hbit

/-- Settles O17: the low byte shifts the high byte down, and the high byte cancels it. -/
theorem crcOfMessageWithItsCrcIsZero : Obligations.CrcOfMessageWithItsCrcIsZero := by
  unfold Obligations.CrcOfMessageWithItsCrcIsZero
  intro m
  rw [crc16_withCrc, crcStep_crcLowByte, ← setWidth_crcHighByte, crcStep_setWidth_self]

/-! The pushed record (R103, R104). -/

theorem frameCrcValid_iff (f : RtuFrame) :
    frameCrcValid f = true ↔ f.crcLo = crcLowByte (crc16 ([f.address, f.function] ++ f.payload))
      ∧ f.crcHi = crcHighByte (crc16 ([f.address, f.function] ++ f.payload)) := by
  simp [frameCrcValid]

/-- What the decode stage pushes is the record it was given. -/
theorem eq_of_decodeStage_pushed {g : Bool} {d d' : DecodedFrame} {s : State}
    (h : (decodeStage g d s).dfq = s.dfq ++ [d']) : d' = d := by
  rcases decodeStage_cases g d s with ⟨-, -, e⟩ | ⟨-, -, e⟩ | ⟨-, -, e⟩ <;> rw [e] at h
  · simp at h
  · simp at h
  · simpa using h.symm

/-- A record that `DECODE_STEP` pushes says of itself what its bytes say. -/
theorem recordInv_of_pushed {s s' : State} {d : DecodedFrame} (he : exec .decodeStep s = .next s')
    (hd : s'.dfq = s.dfq ++ [d]) : RecordInv d := by
  rcases execDecodeStep_cases s with ⟨-, e⟩ | ⟨cf, rest, -, -, e⟩ | ⟨cf, rest, f, -, -, e⟩ <;>
    rw [show exec .decodeStep s = execDecodeStep s from rfl, e] at he
  · cases he
  · obtain rfl := Host.Outcome.next.inj he
    simp at hd
  · obtain rfl := Host.Outcome.next.inj he
    rw [eq_of_decodeStage_pushed (s := { s with cfq := rest }) hd]
    exact recordInv_decodeRecord _ _ _

/-- Settles O18: the record's `crcValid` is the comparison of its own bytes (R103). -/
theorem validRecordReproducesItsCrc : Obligations.ValidRecordReproducesItsCrc := by
  unfold Obligations.ValidRecordReproducesItsCrc
  intro s s' d he hd hv
  obtain ⟨-, -, hcrc, -⟩ := recordInv_of_pushed he hd
  obtain ⟨hlo, hhi⟩ := (frameCrcValid_iff _).1 (hcrc.symm.trans hv)
  exact ⟨hlo.trans (crcLowByte_eq_extractLsb' _), hhi.trans (crcHighByte_eq_extractLsb' _)⟩

end Sys2Proof.Machine
end

section
/-! PROOFS. The statements of 42_decoder.md: the record of each frame opcode (R114 to R124), the dispatch of
`DECODE_STEP` (R113), and what a record depends on (R125, R128). -/

namespace Sys2Proof.Machine

open Sys2Proof.Statement

/-! The common part and the decode stage in the spec's words. -/

/-- A 16-bit value is two bytes exactly when they are its low and its high byte (R102). -/
theorem eq_crcBytes_iff (lo hi : Byte) (c : Half) :
    lo = crcLowByte c ∧ hi = crcHighByte c ↔ lo.toNat + 256 * hi.toNat = c.toNat := by
  have hc : c.toNat < 2 ^ 16 := c.isLt
  have hlo : lo.toNat < 2 ^ 8 := lo.isLt
  simp only [← BitVec.toNat_inj, crcLowByte, crcHighByte, BitVec.toNat_setWidth, BitVec.toNat_ushiftRight,
    Nat.shiftRight_eq_div_pow]
  omega

/-- The CRC comparison, byte with byte or as one number (R103). -/
theorem frameCrcValid_eq_crcOk (h : FrameHead) (fn : Byte) (p : List Byte) :
    frameCrcValid ⟨h.address, fn, p, h.crcLo, h.crcHi⟩ = crcOk h fn p := by
  rw [Bool.eq_iff_iff, frameCrcValid_iff, crcOk, decide_eq_true_iff, eq_crcBytes_iff]

/-- The common part of every record (R112). -/
theorem header_eq_common (h : FrameHead) (fn : Byte) (p : List Byte) : header h fn p = common h fn p .unknown := by
  simp only [header, common, baseFunction_eq_setWidth, isException_eq_getLsbD, frameCrcValid_eq_crcOk]

/-- What the decode stage leaves of a state (R189 to R191). -/
theorem decodeStage_eq_staged (g : Bool) (d : DecodedFrame) (s : State) : decodeStage g d s = staged g d s := by
  simp only [decodeStage, staged, Bool.and_eq_true, Bool.not_eq_true', setFlag, flagMask]

/-- A frame opcode stages the record its layout makes of the common part (R112, R189). -/
theorem processFrame_eq_staged (form : DecodedFrame → DecodedFrame) (h : FrameHead) (fn : Byte) (p : List Byte)
    (s : State) : processFrame form h fn p s = .next (staged h.inGrace (form (common h fn p .unknown)) s) := by
  rw [processFrame, decodeStage_eq_staged, header_eq_common]

/-! The 16-bit fields (R43, R44). -/

theorem opt16_of_lt {p : List Byte} {i : Nat} (h : i + 1 < p.length) : ∃ v, opt16 p i = some v ∧ Be16 p i v := by
  have hhi : p[i]? = some p[i] := List.getElem?_eq_getElem (by omega)
  have hlo : p[i + 1]? = some p[i + 1] := List.getElem?_eq_getElem h
  exact ⟨joinBytes p[i] p[i + 1], by simp only [opt16, hhi, hlo], p[i], p[i + 1], hhi, hlo, toNat_joinBytes _ _⟩

theorem opt16_of_le {p : List Byte} {i : Nat} (h : p.length ≤ i + 1) : opt16 p i = none := by
  have hlo : p[i + 1]? = none := List.getElem?_eq_none h
  simp [opt16, hlo]

theorem opt16_spec (p : List Byte) (i : Nat) : Opt16 p i (opt16 p i) := by
  by_cases h : i + 1 < p.length
  · exact .inl ⟨h, opt16_of_lt h⟩
  · exact .inr ⟨not_lt.1 h, opt16_of_le (not_lt.1 h)⟩

/-! The rows of the table (R114 to R124). A row's meaning is `processFrame` with the row's layout. -/

/-- Settles O19: the four rows share one layout for each form, and the response form's data are the declared bytes. -/
theorem readRecord : Obligations.ReadRecord := by
  unfold Obligations.ReadRecord
  refine fun s h p => ⟨?_, fun _ => ⟨opt16 p 0, opt16 p 2, opt16_spec p 0, opt16_spec p 2, ?_⟩⟩
  · rintro n rest rfl hlen
    have hdata : ((n :: rest).drop 1).length = n.toNat := by simpa [Nat.add_comm] using hlen
    refine List.forall_mem_cons.2 ⟨⟨?_, hdata⟩, List.forall_mem_cons.2 ⟨⟨?_, hdata⟩,
      List.forall_mem_cons.2 ⟨⟨?_, hdata⟩, List.forall_mem_singleton.2 ⟨?_, hdata⟩⟩⟩⟩
    iterate 4 exact processFrame_eq_staged readResponse h _ _ s
  · refine List.forall_mem_cons.2 ⟨?_, List.forall_mem_cons.2 ⟨?_,
      List.forall_mem_cons.2 ⟨?_, List.forall_mem_singleton.2 ?_⟩⟩⟩
    iterate 4 exact processFrame_eq_staged readRequest h _ p s

/-- Settles O20: both rows share one layout, whatever the payload. -/
theorem writeSingleRecord : Obligations.WriteSingleRecord := by
  unfold Obligations.WriteSingleRecord
  refine fun s h p => ⟨opt16 p 0, opt16_spec p 0, ?_⟩
  exact List.forall_mem_cons.2 ⟨processFrame_eq_staged writeSingle h 0x05#8 p s,
    List.forall_mem_singleton.2 (processFrame_eq_staged writeSingle h 0x06#8 p s)⟩

/-- With 4 bytes or more both the address and the count are there (R121). -/
theorem addressAndCount_of_four_le {p : List Byte} (h : 4 ≤ p.length) :
    ∃ first count, opt16 p 0 = some first ∧ opt16 p 2 = some count ∧ Be16 p 0 first ∧ Be16 p 2 count := by
  obtain ⟨first, hfirst, hfirst16⟩ := opt16_of_lt (p := p) (i := 0) (by omega)
  obtain ⟨count, hcount, hcount16⟩ := opt16_of_lt (p := p) (i := 2) (by omega)
  exact ⟨first, count, hfirst, hcount, hfirst16, hcount16⟩

/-- The record of the write-multiple response form, its fields present (R121). -/
theorem writeMultiResponse_common {p : List Byte} {first count : Half} (h : FrameHead) (fn : Byte)
    (hfirst : opt16 p 0 = some first) (hcount : opt16 p 2 = some count) :
    writeMultiResponse (common h fn p .unknown) =
      { common h fn p .response with firstReg := some first, count := some count, dataOff := 4 } := by
  rw [← hfirst, ← hcount]
  rfl

/-- The record of the write-multiple request form, its fields present (R121). -/
theorem writeMultiRequest_common {p : List Byte} {first count : Half} {bcf : Byte} (h : FrameHead) (fn : Byte)
    (hfirst : opt16 p 0 = some first) (hcount : opt16 p 2 = some count) (hbcf : p[4]? = some bcf) :
    writeMultiRequest (common h fn p .unknown) =
      { common h fn p .request with
        firstReg := some first, count := some count, bcf := some bcf, dataOff := 5 } := by
  rw [← hfirst, ← hcount, ← hbcf]
  rfl

/-- A short write-multiple frame has the common part only (R121). -/
theorem writeMultiUnknown_common (h : FrameHead) (fn : Byte) (p : List Byte) :
    writeMultiUnknown (common h fn p .unknown) = common h fn p .unknown := rfl

/-- Settles O21: from 4 bytes on the address and the count are there, from 5 on the byte-count field too. -/
theorem writeMultipleRecord : Obligations.WriteMultipleRecord := by
  unfold Obligations.WriteMultipleRecord
  refine fun s h p => ⟨fun hlen => ?_, fun hlen => ?_, fun _ => ?_⟩
  · obtain ⟨first, count, hfirst, hcount, hfirst16, hcount16⟩ := addressAndCount_of_four_le (p := p) (by omega)
    refine ⟨first, count, hfirst16, hcount16, ?_⟩
    refine List.forall_mem_cons.2 ⟨?_, List.forall_mem_singleton.2 ?_⟩ <;>
      rw [← writeMultiResponse_common h _ hfirst hcount]
    iterate 2 exact processFrame_eq_staged writeMultiResponse h _ p s
  · obtain ⟨first, count, hfirst, hcount, hfirst16, hcount16⟩ := addressAndCount_of_four_le (p := p) (by omega)
    have hbcf : p[4]? = some p[4] := List.getElem?_eq_getElem hlen
    refine ⟨first, count, p[4], hfirst16, hcount16, hbcf, ?_⟩
    refine List.forall_mem_cons.2 ⟨?_, List.forall_mem_singleton.2 ?_⟩ <;>
      rw [← writeMultiRequest_common h _ hfirst hcount hbcf]
    iterate 2 exact processFrame_eq_staged writeMultiRequest h _ p s
  · refine List.forall_mem_cons.2 ⟨?_, List.forall_mem_singleton.2 ?_⟩ <;> rw [← writeMultiUnknown_common h]
    iterate 2 exact processFrame_eq_staged writeMultiUnknown h _ p s

/-- Settles O22: the function byte has bit 7 set, and the error code is the payload's head. -/
theorem exceptionRecord : Obligations.ExceptionRecord := by
  unfold Obligations.ExceptionRecord
  intro s h base p
  rw [← exceptionByte_eq_or, List.head?_eq_getElem?]
  exact processFrame_eq_staged exceptionFrame h (exceptionByte base) p s

/-- Settles O23: the layout leaves the common part as it is, whatever the base function. -/
theorem otherRecord : Obligations.OtherRecord := by
  unfold Obligations.OtherRecord
  intro s h base p _
  rw [← plainByte_eq_setWidth]
  exact processFrame_eq_staged otherFrame h (plainByte base) p s

/-! The dispatch (R113): one equation for each of its lines. -/

theorem decodeRecord_of_isException {fn : Byte} (he : isException fn = true) (h : FrameHead) (p : List Byte) :
    decodeRecord h fn p = exceptionFrame (header h fn p) :=
  if_pos he

theorem decodeRecord_of_not_named {fn : Byte} (he : isException fn = false) (hn : fn.toNat ∉ namedFunctions)
    (h : FrameHead) (p : List Byte) : decodeRecord h fn p = otherFrame (header h fn p) := by
  have hb : (baseFunction fn).toNat = fn.toNat := by rw [← toNat_plainByte, plainByte_baseFunction he]
  rcases decodeRecord_cases h fn p with ⟨he', -⟩ | ⟨-, hm, -⟩ | ⟨-, hm, -⟩ | ⟨-, hm, -⟩ | ⟨-, -, e⟩
  · simp [he] at he'
  iterate 3 exact absurd (hb ▸ hm) fun hm' => hn (by simp [namedFunctions] at hm' ⊢; omega)
  · exact e

/-- The read family's two forms (R114). -/
theorem exec_readForm {rsp req : Instr} {h : FrameHead} {fn : Byte} {p : List Byte} {s : State}
    (hrsp : exec rsp s = processFrame readResponse h fn p s) (hreq : exec req s = processFrame readRequest h fn p s) :
    exec (if isReadResponse p then rsp else req) s = processFrame readFrame h fn p s := by
  have hform : readFrame (header h fn p) =
      if isReadResponse p then readResponse (header h fn p) else readRequest (header h fn p) := rfl
  rw [processFrame, hform]
  split_ifs
  · exact hrsp
  · exact hreq

/-- The write-multiple family's three forms (R121). -/
theorem exec_writeMultiForm {rsp req unk : Instr} {h : FrameHead} {fn : Byte} {p : List Byte} {s : State}
    (hrsp : exec rsp s = processFrame writeMultiResponse h fn p s)
    (hreq : exec req s = processFrame writeMultiRequest h fn p s)
    (hunk : exec unk s = processFrame writeMultiUnknown h fn p s) :
    exec (if p.length = 4 then rsp else if 5 ≤ p.length then req else unk) s = processFrame writeMulti h fn p s := by
  have hform : writeMulti (header h fn p) =
      if p.length = 4 then writeMultiResponse (header h fn p)
      else if 5 ≤ p.length then writeMultiRequest (header h fn p) else writeMultiUnknown (header h fn p) := rfl
  rw [processFrame, hform]
  split_ifs
  · exact hrsp
  · exact hreq
  · exact hunk

/-- The opcode a frame selects stages the record that the dispatch makes of the frame (R70, R113). -/
theorem exec_frameInstr (h : FrameHead) (fn : Byte) (p : List Byte) (s : State) :
    exec (frameInstr h fn p) s = .next (decodeStage h.inGrace (decodeRecord h fn p) s) := by
  cases he : isException fn with
  | true =>
    rw [frameInstr_of_isException he, decodeRecord_of_isException he]
    conv_rhs => rw [← exceptionByte_baseFunction he]
    rfl
  | false =>
    by_cases hn : fn.toNat ∈ namedFunctions
    · rcases toNat_mem_namedFunctions hn with rfl | rfl | rfl | rfl | rfl | rfl | rfl | rfl
      iterate 4 exact exec_readForm rfl rfl
      iterate 2 rfl
      iterate 2 exact exec_writeMultiForm rfl rfl rfl
    · rw [frameInstr_of_not_named he hn, decodeRecord_of_not_named he hn]
      conv_rhs => rw [← plainByte_baseFunction he]
      rfl

/-- Settles O24: both read the head alike, and the selected opcode stages the dispatch's record. -/
theorem decodeStepRunsTheFrameOpcode : Obligations.DecodeStepRunsTheFrameOpcode := by
  unfold Obligations.DecodeStepRunsTheFrameOpcode
  intro s cf rest i hq hi
  cases hp : RtuFrame.parse cf.bytes with
  | none => simp [decode, decodeFrame, hp] at hi
  | some f =>
    simp only [decode, decodeFrame, hp, Except.ok.injEq] at hi
    rw [← hi, exec_frameInstr, execDecodeStep_of_parse hq hp]

/-! What a record depends on (R125, R128). -/

/-- The record with another head: its tags, address and trailer, and the CRC comparison they enter. -/
def withHead (h : FrameHead) (d : DecodedFrame) : DecodedFrame :=
  { d with
    ts := h.ts
    address := h.address
    crcLo := h.crcLo
    crcHi := h.crcHi
    crcValid := frameCrcValid ⟨h.address, d.function, d.payload, h.crcLo, h.crcHi⟩ }

/-- The layouts the dispatch selects from (R113). -/
def dispatchLayouts : List (DecodedFrame → DecodedFrame) :=
  [exceptionFrame, readFrame, writeSingle, writeMulti, otherFrame]

/-- No layout looks at the head. -/
theorem layout_withHead {form : DecodedFrame → DecodedFrame} (hform : form ∈ dispatchLayouts) (h : FrameHead)
    (d : DecodedFrame) : form (withHead h d) = withHead h (form d) := by
  simp only [dispatchLayouts, List.mem_cons, List.not_mem_nil, or_false] at hform
  rcases hform with rfl | rfl | rfl | rfl | rfl
  · rfl
  · rw [readFrame, readFrame, apply_ite (withHead h)]
    rfl
  · rfl
  · rw [writeMulti, writeMulti, apply_ite (withHead h), apply_ite (withHead h)]
    rfl
  · rfl

/-- The function byte alone selects the layout (R113). -/
theorem decodeRecord_layout (fn : Byte) :
    ∃ form ∈ dispatchLayouts, ∀ h p, decodeRecord h fn p = form (header h fn p) := by
  cases he : isException fn with
  | true => exact ⟨exceptionFrame, by simp [dispatchLayouts], decodeRecord_of_isException he⟩
  | false =>
    by_cases hn : fn.toNat ∈ namedFunctions
    · rcases toNat_mem_namedFunctions hn with rfl | rfl | rfl | rfl | rfl | rfl | rfl | rfl
      iterate 4 exact ⟨readFrame, by simp [dispatchLayouts], fun _ _ => rfl⟩
      iterate 2 exact ⟨writeSingle, by simp [dispatchLayouts], fun _ _ => rfl⟩
      iterate 2 exact ⟨writeMulti, by simp [dispatchLayouts], fun _ _ => rfl⟩
    · exact ⟨otherFrame, by simp [dispatchLayouts], decodeRecord_of_not_named he hn⟩

/-- What a frame's function byte and payload make of it, under an all-zero head. -/
def headlessRecord (fn : Byte) (p : List Byte) : DecodedFrame := decodeRecord ⟨0, false, 0, 0, 0⟩ fn p

/-- A record is what the function byte and the payload make of it, under the frame's head. -/
theorem decodeRecord_eq_withHead (h : FrameHead) (fn : Byte) (p : List Byte) :
    decodeRecord h fn p = withHead h (headlessRecord fn p) := by
  obtain ⟨form, hform, hrecord⟩ := decodeRecord_layout fn
  rw [headlessRecord, hrecord, hrecord, ← layout_withHead hform]
  rfl

/-- A frame outside the grace window is pushed while DFQ has room (R189). -/
theorem execDecodeStep_of_room {s : State} {bytes : List Byte} {ts : Stamp} {rest : List CandidateFrame} {f : RtuFrame}
    (hq : s.cfq = ⟨bytes, ts, false⟩ :: rest) (hp : RtuFrame.parse bytes = some f)
    (hroom : s.dfq.length ≠ s.cfg.dfqDepth) :
    exec .decodeStep s = .next { s with
      cfq := rest
      dfq := s.dfq ++ [decodeRecord ⟨ts, false, f.address, f.crcLo, f.crcHi⟩ f.function f.payload] } := by
  rw [execDecodeStep_of_parse hq hp]
  exact congrArg _ (if_neg hroom)

/-- Settles O28: under two heads that differ in the time stamp only, the records differ in `ts` only. -/
theorem decodeDependsOnTheBytesOnly : Obligations.DecodeDependsOnTheBytesOnly := by
  unfold Obligations.DecodeDependsOnTheBytesOnly
  intro s₁ s₂ bytes ts₁ ts₂ rest₁ rest₂ hlen hq₁ hroom₁ hq₂ hroom₂
  cases hp : RtuFrame.parse bytes with
  | none => exact absurd ((RtuFrame.parse_eq_none_iff bytes).1 hp) (not_lt.2 hlen)
  | some f =>
    rw [execDecodeStep_of_room hq₁ hp hroom₁, execDecodeStep_of_room hq₂ hp hroom₂,
      decodeRecord_eq_withHead ⟨ts₁, _, _, _, _⟩, decodeRecord_eq_withHead ⟨ts₂, _, _, _, _⟩]
    exact ⟨withHead ⟨0, false, f.address, f.crcLo, f.crcHi⟩ (headlessRecord f.function f.payload), rfl, rfl⟩

/-- Settles O29: under two heads that differ in the trailer only, the records differ in the received CRC and the
comparison with it. -/
theorem wrongCrcIsDecodedAlike : Obligations.WrongCrcIsDecodedAlike := by
  unfold Obligations.WrongCrcIsDecodedAlike
  intro s a fn lo hi lo' hi' p ts rest hroom
  have hrun (lo hi : Byte) := execDecodeStep_of_room
    (s := { s with cfq := ⟨[a, fn] ++ p ++ [lo, hi], ts, false⟩ :: rest }) rfl
    (RtuFrame.parse_bytes ⟨a, fn, p, lo, hi⟩) hroom
  rw [hrun lo hi, hrun lo' hi', decodeRecord_eq_withHead ⟨ts, _, _, lo, hi⟩,
    decodeRecord_eq_withHead ⟨ts, _, _, lo', hi'⟩]
  exact ⟨withHead ⟨ts, false, a, 0, 0⟩ (headlessRecord fn p), _, _, rfl, rfl⟩

end Sys2Proof.Machine
end

section
/-! PROOFS. The statements of 44_scanner.md. A scanner event ends the scan for a pending cancel, evaluates a candidate
whose observation is over, or leaves the candidate under test; each procedure has one equation in the spec's words. -/

namespace Sys2Proof.Machine

open Sys2Proof.Statement

/-! The scanner's procedures in the spec's words. -/

/-- Whether the block emits `SRC_CLOSE` when the observation ends with this event (R170, R172). -/
def closes : LineEvent → Bool
  | .byte _ => true
  | .ended => false
  | .tick => true

theorem endObservation_eq_observed (ev : LineEvent) (s : State) : endObservation ev s = observed (closes ev) s := by
  cases ev with
  | ended => simp [endObservation, loseObservation, observed, closes]
  | byte b => rfl
  | tick => rfl

/-- A candidate that passes the test is accepted (R171, R174). -/
theorem evaluate_of_accepts {s : State} (h : Accepts s) (t : Stamp) (e : Bool) :
    evaluate t (observed e s)
      = finished .accepted (observed e { s with foundBaud := s.actBaud, foundLinecfg := s.actLinecfg }) :=
  if_pos ((ratioAccepted_iff (observed e s)).2 h)

theorem beginCandidate_eq_opened {s : State} {c : LinkConfig} (h : s.cfg.scanCands[s.candIdx]? = some c) (t : Stamp) :
    beginCandidate t s = opened t c s :=
  (beginCandidate_of_some h).trans (openCandidate_eq t c s)

/-- A candidate that fails the test gives way to the next (R164, R171). -/
theorem evaluate_of_next {s : State} {c : LinkConfig} (h : ¬ Accepts s) (hc : s.cfg.scanCands[s.candIdx + 1]? = some c)
    (t : Stamp) (e : Bool) :
    evaluate t (observed e s) = opened t c { observed e s with candIdx := s.candIdx + 1 } :=
  (if_neg (mt (ratioAccepted_iff (observed e s)).1 h)).trans
    (beginCandidate_eq_opened (s := { observed e s with candIdx := s.candIdx + 1 }) hc t)

/-- After the last candidate the scan is exhausted (R166). -/
theorem evaluate_of_last {s : State} (h : ¬ Accepts s) (hc : s.cfg.scanCands[s.candIdx + 1]? = none)
    (t : Stamp) (e : Bool) :
    evaluate t (observed e s) = finished .exhausted { observed e s with candIdx := s.candIdx + 1 } :=
  (if_neg (mt (ratioAccepted_iff (observed e s)).1 h)).trans
    (beginCandidate_of_none (s := { observed e s with candIdx := s.candIdx + 1 }) hc)

/-- A pending cancel comes before anything else (R173). -/
theorem scanEvent_of_cancel {s : State} (hc : s.cancelReq = true) (t : Stamp) (ev : LineEvent) :
    scanEvent t ev s = finished .cancelled (observed (closes ev) s) := by
  rw [← endObservation_eq_observed]
  exact if_pos hc

/-- The observation is over when the source ends or the window has passed (R167, R168, R170). -/
theorem scanEvent_of_over {s : State} {t : Stamp} {ev : LineEvent} (hc : s.cancelReq = false)
    (h : ev = .ended ∨ windowOver t s = true) : scanEvent t ev s = evaluate t (observed (closes ev) s) := by
  rw [scanEvent.eq_def, hc, ← endObservation_eq_observed]
  cases ev with
  | ended => rfl
  | byte b => exact if_pos (h.resolve_left nofun)
  | tick => exact if_pos (h.resolve_left nofun)

/-- Inside the window `TICK` does nothing (R167). -/
theorem scanEvent_tick_of_within {s : State} {t : Stamp} (hc : s.cancelReq = false) (hw : windowOver t s = false) :
    scanEvent t .tick s = s := by
  rw [scanEvent, hc, hw]
  rfl

/-- Inside the window a byte is the Reassembler's (R167). -/
theorem scanEvent_byte_of_within {s : State} {t : Stamp} (hc : s.cancelReq = false) (hw : windowOver t s = false)
    (b : Byte) : scanEvent t (.byte b) s = reassemble t b s := by
  rw [scanEvent, hc, hw]
  rfl

/-- Without a pending cancel a scanner event evaluates the candidate, whose observation is over, or is a byte or `TICK`
inside the window (R167). -/
theorem scanEvent_of_not_cancel {s : State} (hc : s.cancelReq = false) (t : Stamp) (ev : LineEvent) :
    ((ev = .ended ∨ windowOver t s = true) ∧ scanEvent t ev s = evaluate t (observed (closes ev) s))
    ∨ (closes ev = true ∧ ((∃ b, scanEvent t ev s = reassemble t b s) ∨ scanEvent t ev s = s)) := by
  by_cases h : ev = .ended ∨ windowOver t s = true
  · exact .inl ⟨h, scanEvent_of_over hc h⟩
  · rw [not_or, Bool.not_eq_true] at h
    obtain ⟨hev, hw⟩ := h
    cases ev with
    | ended => exact absurd rfl hev
    | byte b => exact .inr ⟨rfl, .inl ⟨b, scanEvent_byte_of_within hc hw b⟩⟩
    | tick => exact .inr ⟨rfl, .inr (scanEvent_tick_of_within hc hw)⟩

/-! A run of a scan (R176). -/

/-- An input with a step is found at its timestamp (R8). -/
theorem timeAfter_of_step {s s' : State} {x : Input} {rest : List Input} {t : Stamp} (hi : s.inputs = x :: rest)
    (hx : inputStamp x = some t) (h : step s = .next s') : timeAfter x s.time = some t := by
  cases ht : timeAfter x s.time with
  | none =>
    rw [step_of_timeAfter_none hi ht] at h
    cases h
  | some now => rw [timeAfter_stamp ht hx]

/-- What a line event or `TICK` that arrives in SCAN shows the scanner, and when it ends the observation (R167). -/
theorem step_of_scannerStamp {s s' : State} {x : Input} {rest : List Input} {t : Stamp} (hm : s.mode = .scan)
    (hi : s.inputs = x :: rest) (hx : scannerStamp x = some t) (h : step s = .next s') :
    ∃ ev, s' = scanEvent t ev { s with inputs := rest, time := t }
      ∧ (ev = .ended ∨ windowOver t s = true → EndsObservation s) := by
  have hm' : ({ s with inputs := rest, time := t } : State).mode = .scan := hm
  cases x with
  | rx u b =>
    obtain rfl := Option.some.inj hx
    rw [step_of_decodeInput_ok hi (timeAfter_of_step hi rfl h) rfl, exec_rxbyte_scan hm'] at h
    exact ⟨.byte b, (Host.Outcome.next.inj h).symm,
      fun hover => .inr (.inl ⟨u, b, rest, hi, (windowOver_iff u s).1 (hover.resolve_left nofun)⟩)⟩
  | ended u =>
    obtain rfl := Option.some.inj hx
    rw [step_of_decodeInput_ok hi (timeAfter_of_step hi rfl h) rfl, exec_rxend_scan hm'] at h
    exact ⟨.ended, (Host.Outcome.next.inj h).symm, fun _ => .inl ⟨u, rest, hi⟩⟩
  | tick u =>
    obtain rfl := Option.some.inj hx
    rw [step_of_decodeInput_ok hi (timeAfter_of_step hi rfl h) rfl, exec_tick_scan hm'] at h
    exact ⟨.tick, (Host.Outcome.next.inj h).symm,
      fun hover => .inr (.inr ⟨u, rest, hi, (windowOver_iff u s).1 (hover.resolve_left nofun)⟩)⟩
  | write | read | dec | hardReset => cases hx

/-- A step of a scan that is neither cancelled nor reset keeps the candidate under test, or ends its observation. -/
theorem step_observing {s s' : State} (hm : s.mode = .scan) (hc : s.cancelReq = false) (hr : ¬ ResetNext s)
    (h : step s = .next s') :
    (s'.mode = .scan ∧ s'.candIdx = s.candIdx)
    ∨ (EndsObservation s ∧ ∃ t rest e, s' = evaluate t (observed e { s with inputs := rest, time := t })) := by
  rcases step_scan_cases hm h with hreset | hreset | ⟨x, t, rest, -, hi, hx, -⟩ | ⟨⟨hm', hidx, -⟩, -⟩
  · exact absurd (.inl hreset) hr
  · exact absurd (.inr hreset) hr
  · obtain ⟨ev, rfl, hends⟩ := step_of_scannerStamp hm hi hx h
    rcases scanEvent_of_not_cancel (s := { s with inputs := rest, time := t }) hc t ev with
      ⟨hover, e⟩ | ⟨-, ⟨b, e⟩ | e⟩
    · exact .inr ⟨hends hover, t, rest, closes ev, e⟩
    · obtain ⟨u, q, f, n, v, e'⟩ := reassemble_shape t b { s with inputs := rest, time := t }
      rw [e, e']
      exact .inl ⟨hm, rfl⟩
    · rw [e]
      exact .inl ⟨hm, rfl⟩
  · exact .inl ⟨hm', hidx⟩

/-- What R176 asks of every state of a scan: neither cancelled nor reset, and only candidate `k` passes the test. -/
def OnlyPasses (k : Nat) (s : State) : Prop :=
  s.mode = .scan ∧ s.cancelReq = false ∧ ¬ ResetNext s ∧ (EndsObservation s → (Accepts s ↔ s.candIdx = k))

/-- The scan has ended ACCEPTED with candidate `k` of the list selected. -/
def Selected (cands : List LinkConfig) (k : Nat) (s : State) : Prop :=
  s.scanOutcome = .accepted ∧ s.candIdx = k
  ∧ ∃ c, cands[k]? = some c ∧ s.foundBaud = c.baud ∧ s.foundLinecfg = linecfgOf c

/-- Where only candidate `k` passes, a step goes on scanning at most to `k`, or ends the scan with `k` selected. -/
theorem step_of_onlyPasses {s s' : State} {k : Nat} (hinv : Invariant s) (hs : OnlyPasses k s) (hle : s.candIdx ≤ k)
    (hk : k < s.cfg.scanCands.length) (h : step s = .next s') :
    (s'.mode = .scan ∧ s'.candIdx ≤ k) ∨ (s'.mode = .idle ∧ Selected s.cfg.scanCands k s') := by
  obtain ⟨hm, hc, hr, hpass⟩ := hs
  rcases step_observing hm hc hr h with ⟨hm', hidx⟩ | ⟨hends, t, rest, e, rfl⟩
  · exact .inl ⟨hm', hidx ▸ hle⟩
  · have hiff := hpass hends
    rcases hle.eq_or_lt with rfl | hlt
    · obtain ⟨-, -, htest⟩ := hinv.scan
      rw [evaluate_of_accepts (s := { s with inputs := rest, time := t }) (hiff.2 rfl)]
      exact .inr ⟨rfl, rfl, rfl, htest hm⟩
    · have hnext := List.getElem?_eq_getElem (l := s.cfg.scanCands) (i := s.candIdx + 1) (by omega)
      rw [evaluate_of_next (s := { s with inputs := rest, time := t }) (mt hiff.1 hlt.ne) hnext]
      exact .inl ⟨hm, hlt⟩

/-- A run through states in which only candidate `k` passes selects it where it leaves SCAN. -/
theorem run_of_onlyPasses {k : Nat} {last : State} (scanning : List State) {s : State} (hinv : Invariant s)
    (hle : s.candIdx ≤ k) (hk : k < s.cfg.scanCands.length) (hrun : Run s (scanning ++ [last]))
    (hs : ∀ u ∈ s :: scanning, OnlyPasses k u) (hlast : last.mode = .idle) : Selected s.cfg.scanCands k last := by
  induction scanning generalizing s with
  | nil =>
    obtain ⟨hstep, -⟩ := hrun
    rcases step_of_onlyPasses hinv (hs s (by simp)) hle hk hstep with ⟨hm, -⟩ | ⟨-, hsel⟩
    · simp [hlast] at hm
    · exact hsel
  | cons u rest ih =>
    obtain ⟨hstep, hrest⟩ := hrun
    obtain ⟨hm, -⟩ := hs u (by simp)
    rcases step_of_onlyPasses hinv (hs s (by simp)) hle hk hstep with ⟨-, hle'⟩ | ⟨hidle, -⟩
    · obtain ⟨-, hcfg⟩ := step_next_time_le hstep
      rw [← hcfg] at hk ⊢
      exact ih (everyStepKeepsTheInvariant s u hinv hstep) hle' hk hrest
        fun v hv => hs v (List.mem_cons_of_mem _ hv)
    · simp [hidle] at hm

/-- Settles O35, by induction over the scanning states: before candidate `k` every observation that ends fails and the
next candidate is opened, and the observation of `k` that ends is accepted. -/
theorem scanSelectsTheOnlyPassingCandidate : Obligations.ScanSelectsTheOnlyPassingCandidate := by
  unfold Obligations.ScanSelectsTheOnlyPassingCandidate
  intro s scanning last k hinv _ hle hk hrun hs hlast
  exact run_of_onlyPasses scanning hinv hle hk hrun hs hlast

/-! One operation. -/

/-- Settles O30: `SCAN_START` is refused or begins candidate 0, which is there or not. -/
theorem scanStartOpensTheFirstCandidate : Obligations.ScanStartOpensTheFirstCandidate := by
  unfold Obligations.ScanStartOpensTheFirstCandidate
  intro s t s₀
  have hbegin (hm : s.mode = .idle) (hw : s.scanWindow ≠ 0) : exec (.scanStart t) s = .next (beginCandidate t s₀) :=
    congrArg Host.Outcome.next (if_neg (not_or.2 ⟨not_not.2 hm, hw⟩))
  refine ⟨fun h => congrArg Host.Outcome.next (if_pos h), fun hm hw c cs hcs => ?_, fun hm hw hcs => ?_⟩
  · rw [hbegin hm hw, beginCandidate_eq_opened (s := s₀) (c := c) (by simp [s₀, hcs])]
  · rw [hbegin hm hw, beginCandidate_of_none (s := s₀) (by simp [s₀, hcs])]
    rfl

theorem windowOver_of_lt {s : State} {t : Stamp} (h : t.toNat - s.tOpen.toNat < s.actWindow.toNat) :
    windowOver t s = false :=
  decide_eq_false (not_le.2 h)

/-- A cut in SCAN discards a Segment of fewer than 4 bytes (R86). -/
theorem cutSegment_of_scan_short {s : State} (h : s.buf.length < 4) :
    cutSegment s = { s with buf := [], flags := s.flags ||| 0x04#32 } :=
  deliver_of_short (g := currentSegment s) h

/-- The CRC test on a frame's bytes (R103). -/
theorem crcValid_frameBytes (h : FrameHead) (fn : Byte) (p : List Byte) :
    crcValid (frameBytes h fn p) = crcOk h fn p := by
  have hparse : RtuFrame.parse (frameBytes h fn p) = some ⟨h.address, fn, p, h.crcLo, h.crcHi⟩ :=
    RtuFrame.parse_bytes ⟨h.address, fn, p, h.crcLo, h.crcHi⟩
  rw [crcValid, hparse]
  exact frameCrcValid_eq_crcOk h fn p

/-- A cut in SCAN counts a frame, and counts it as valid when its CRC is (R169). -/
theorem cutSegment_of_scan_frame {s : State} (hm : s.mode = .scan) {h : FrameHead} {fn : Byte} {p : List Byte}
    (hb : s.buf = frameBytes h fn p) :
    cutSegment s = { s with
      buf := []
      scanTotal := s.scanTotal + 1
      scanValid := if crcOk h fn p then s.scanValid + 1 else s.scanValid } := by
  have h4 : ¬ (currentSegment s).bytes.length < minFrame := by simp [currentSegment, hb, frameBytes, minFrame]
  have hcrc : crcValid (currentSegment s).bytes = crcOk h fn p :=
    (congrArg crcValid hb).trans (crcValid_frameBytes h fn p)
  rw [cutSegment, deliver_of_scan (s := { s with buf := [] }) h4 hm, scanCount, hcrc]

/-- Settles O31: the boundary handling cuts, the cut discards or counts, and the byte is stored in the empty BUF. -/
theorem scanFrameGapCountsTheSegment : Obligations.ScanFrameGapCountsTheSegment := by
  unfold Obligations.ScanFrameGapCountsTheSegment
  refine ⟨fun s t hm hc hw => ?_, fun s t b hm hc hw hb hg hroom => ?_⟩
  · rw [exec_tick_scan hm, scanEvent_tick_of_within hc (windowOver_of_lt hw)]
  · have hcut := boundary_of_frameGap hb hg
    rw [exec_rxbyte_of_reassembled (.inr ⟨hm, hc, hw⟩)]
    refine ⟨fun hshort => ?_, fun h fn p hbuf => ?_⟩
    · rw [reassemble_of_room b (hcut.trans (cutSegment_of_scan_short hshort)) hroom]
      rfl
    · rw [reassemble_of_room b (hcut.trans (cutSegment_of_scan_frame hm hbuf)) hroom]
      rfl

/-- The events that end a candidate's observation lead to its evaluation, with the line closed (R167, R168, R170). -/
theorem exec_of_over {s : State} (hm : s.mode = .scan) (hc : s.cancelReq = false) (t : Stamp) :
    exec (.rxend t) s = .next (evaluate t (observed false s))
    ∧ (s.actWindow.toNat ≤ t.toNat - s.tOpen.toNat →
      exec (.tick t) s = .next (evaluate t (observed true s))
      ∧ ∀ b, exec (.rxbyte t b) s = .next (evaluate t (observed true s))) := by
  have hover (hw : s.actWindow.toNat ≤ t.toNat - s.tOpen.toNat) (ev : LineEvent) :
      scanEvent t ev s = evaluate t (observed (closes ev) s) :=
    scanEvent_of_over hc (.inr ((windowOver_iff t s).2 hw))
  rw [exec_rxend_scan hm, exec_tick_scan hm, scanEvent_of_over hc (.inl rfl)]
  refine ⟨rfl, fun hw => ⟨congrArg _ (hover hw .tick), fun b => ?_⟩⟩
  rw [exec_rxbyte_scan hm, hover hw]
  rfl

/-- Settles O32: the candidate's observation is over and its evaluation accepts it. -/
theorem passingCandidateIsAccepted : Obligations.PassingCandidateIsAccepted := by
  unfold Obligations.PassingCandidateIsAccepted
  intro s t hm hc ha found
  have h := exec_of_over hm hc t
  rwa [evaluate_of_accepts ha, evaluate_of_accepts ha] at h

/-- Settles O33: the candidate's observation is over and its evaluation goes on to the next, if there is one. -/
theorem failingCandidateGivesWayToTheNext : Obligations.FailingCandidateGivesWayToTheNext := by
  unfold Obligations.FailingCandidateGivesWayToTheNext
  intro s t hm hc ha after
  have hafter (e : Bool) : evaluate t (observed e s) = after e := by
    cases hn : s.cfg.scanCands[s.candIdx + 1]? with
    | none => simp only [after, hn, evaluate_of_last ha hn]
    | some c => simp only [after, hn, evaluate_of_next ha hn]
  rw [← hafter, ← hafter]
  exact exec_of_over hm hc t

/-- Settles O34: the pending cancel is the first thing a scanner event looks at. -/
theorem cancelIsHonouredFirst : Obligations.CancelIsHonouredFirst := by
  unfold Obligations.CancelIsHonouredFirst
  intro s t
  refine ⟨fun hm => congrArg Host.Outcome.next (if_pos hm), fun hm => congrArg Host.Outcome.next (if_neg hm),
    fun hm hc => ⟨?_, ?_, fun b => ?_⟩⟩
  · exact (exec_rxend_scan hm t).trans (congrArg _ (scanEvent_of_cancel hc t .ended))
  · exact (exec_tick_scan hm t).trans (congrArg _ (scanEvent_of_cancel hc t .tick))
  · exact (exec_rxbyte_scan hm t b).trans (congrArg _ (scanEvent_of_cancel hc t (.byte b)))

/-! The queues and the configuration of the line (R175). -/

/-- What the scanner leaves alone: CFQ, DFQ, `BAUD` and `LINECFG`. -/
def queuesAndLine (s : State) : List CandidateFrame × List DecodedFrame × Word × Word :=
  (s.cfq, s.dfq, s.baud, s.linecfg)

theorem queuesAndLine_cutSegment {s : State} (hm : s.mode = .scan) :
    queuesAndLine (cutSegment s) = queuesAndLine s := by
  unfold cutSegment
  rcases deliver_cases (currentSegment s) { s with buf := [] } with ⟨-, e⟩ | ⟨-, -, e⟩ | ⟨-, hm', -⟩
  · rw [e]; rfl
  · rw [e]; rfl
  · exact absurd hm hm'

theorem queuesAndLine_boundary {s : State} (hm : s.mode = .scan) (t : Stamp) :
    queuesAndLine (boundary t s) = queuesAndLine s := by
  rcases boundary_cases t s with ⟨-, -, e⟩ | ⟨-, -, -, e⟩ | ⟨-, e⟩ <;> rw [e]
  · exact queuesAndLine_cutSegment hm
  · rfl

theorem queuesAndLine_storeByte (b : Byte) (s : State) : queuesAndLine (storeByte b s) = queuesAndLine s := by
  rcases storeByte_cases b s with ⟨-, e⟩ | ⟨-, e⟩ <;> rw [e] <;> rfl

theorem queuesAndLine_reassemble {s : State} (hm : s.mode = .scan) (t : Stamp) (b : Byte) :
    queuesAndLine (reassemble t b s) = queuesAndLine s :=
  (queuesAndLine_storeByte b (boundary t s)).trans (queuesAndLine_boundary hm t)

theorem queuesAndLine_beginCandidate (t : Stamp) (s : State) :
    queuesAndLine (beginCandidate t s) = queuesAndLine s := by
  rcases beginCandidate_cases t s with ⟨-, e⟩ | ⟨c, -, e⟩ <;> rw [e] <;> rfl

theorem queuesAndLine_evaluate (t : Stamp) (s : State) : queuesAndLine (evaluate t s) = queuesAndLine s := by
  rcases evaluate_cases t s with ⟨-, e⟩ | ⟨-, e⟩ <;> rw [e]
  · rfl
  · exact queuesAndLine_beginCandidate t _

theorem queuesAndLine_scanEvent {s : State} (hm : s.mode = .scan) (t : Stamp) (ev : LineEvent) :
    queuesAndLine (scanEvent t ev s) = queuesAndLine s := by
  rcases scanEvent_cases t ev s with
    ⟨-, -, e⟩ | ⟨-, -, e⟩ | ⟨-, -, e⟩ | ⟨-, -, -, e⟩ | ⟨-, -, b, -, e⟩ | ⟨-, -, -, e⟩ <;> rw [e]
  · rfl
  · rfl
  · exact queuesAndLine_evaluate t _
  · exact queuesAndLine_evaluate t _
  · exact queuesAndLine_reassemble hm t b

/-- Settles O36: the three line events are scanner events, and no branch of one pushes to a queue. -/
theorem scanLeavesTheQueuesAlone : Obligations.ScanLeavesTheQueuesAlone := by
  unfold Obligations.ScanLeavesTheQueuesAlone
  intro s t b hm i hi
  have hev : ∃ ev, exec i s = .next (scanEvent t ev s) := by
    simp only [List.mem_cons, List.not_mem_nil, or_false] at hi
    rcases hi with rfl | rfl | rfl
    · exact ⟨.byte b, exec_rxbyte_scan hm t b⟩
    · exact ⟨.ended, exec_rxend_scan hm t⟩
    · exact ⟨.tick, exec_tick_scan hm t⟩
  obtain ⟨ev, hexec⟩ := hev
  have hkept := queuesAndLine_scanEvent hm t ev
  simp only [queuesAndLine, Prod.mk.injEq] at hkept
  exact ⟨_, hexec, hkept⟩

end Sys2Proof.Machine
end

section
/-! PROOFS. The byte-source protocol of 46_host_commands.md R201 to R204 along every step: what an operation emits is
legal from the handle as the operation finds it and leaves the handle as `LINE_OPEN` says (R16, R175). -/

namespace Sys2Proof.Machine

open Sys2Proof.Statement

/-- From `s` to `s'` the block emits actions that are legal with the handle at `h`, and `LINE_OPEN` of `s'` says how
they leave the handle. -/
def EmitsLegally (h : Bool) (s s' : State) : Prop :=
  ∃ emitted, s'.actions = s.actions ++ emitted ∧ runActions h emitted = some s'.lineOpen

/-- What the byte source sees of the block: the actions emitted so far and the line. -/
def port (s : State) : List SrcAction × Bool := (s.actions, s.lineOpen)

theorem EmitsLegally.of_silent {h : Bool} {s s' : State} (ha : s'.actions = s.actions) (hl : s'.lineOpen = h) :
    EmitsLegally h s s' :=
  ⟨[], by simp [ha], by cases h <;> simp [runActions, hl]⟩

theorem EmitsLegally.of_port_eq {s s' : State} (e : port s' = port s) : EmitsLegally s.lineOpen s s' :=
  .of_silent (congrArg Prod.fst e) (congrArg Prod.snd e)

/-- One part of an operation after another (assumption 7). -/
theorem EmitsLegally.trans {h : Bool} {s u s' : State} (hu : EmitsLegally h s u)
    (hs' : EmitsLegally u.lineOpen u s') : EmitsLegally h s s' := by
  obtain ⟨xs, hxs, hrun⟩ := hu
  obtain ⟨ys, hys, hrun'⟩ := hs'
  exact ⟨xs ++ ys, by rw [hys, hxs, List.append_assoc], by rw [runActions_append, hrun]; exact hrun'⟩

/-! Operations that emit nothing. -/

theorem port_flush (s : State) : port (flush s) = port s := by
  obtain ⟨q, f, n, v, e⟩ := flush_shape s
  rw [e]; rfl

theorem port_reassemble (t : Stamp) (b : Byte) (s : State) : port (reassemble t b s) = port s := by
  obtain ⟨u, q, f, n, v, e⟩ := reassemble_shape t b s
  rw [e]; rfl

theorem port_decodeStep {s s' : State} (he : exec .decodeStep s = .next s') : port s' = port s := by
  rcases execDecodeStep_cases s with ⟨-, e⟩ | ⟨cf, rest, -, -, e⟩ | ⟨cf, rest, f, -, -, e⟩ <;>
    rw [show exec .decodeStep s = execDecodeStep s from rfl, e] at he
  · cases he
  · cases he; rfl
  · obtain ⟨q, w, e'⟩ := decodeStage_shape cf.inGrace
      (decodeRecord ⟨cf.ts, cf.inGrace, f.address, f.crcLo, f.crcHi⟩ f.function f.payload) { s with cfq := rest }
    rw [← Host.Outcome.next.inj he, e']
    rfl

theorem port_afterRead (r : Reg) (s : State) : port (afterRead r s) = port s := by
  cases r with
  | recData => simp only [afterRead]; split <;> rfl
  | _ => rfl

theorem port_writeRegister (t : Stamp) {r : Reg} (v : Word) (hr : r ≠ .cmd) (s : State) :
    port (writeRegister t r v s) = port s := by
  cases r with
  | cmd => exact absurd rfl hr
  | _ => rfl

theorem port_scanCancelCommand (s : State) : port (scanCancelCommand s) = port s := by
  rcases scanCancelCommand_cases s with ⟨-, e⟩ | ⟨-, e⟩ <;> rw [e] <;> rfl

theorem port_recPopCommand (s : State) : port (recPopCommand s) = port s := by
  rcases recPopCommand_cases s with ⟨-, e⟩ | ⟨d, rest, -, e⟩ <;> rw [e] <;> rfl

/-! The scanner. -/

/-- A source that is open is closed; one that has ended by itself is left alone (R170, R172). -/
theorem emitsLegally_observed (e : Bool) (s : State) : EmitsLegally e s (observed e s) :=
  ⟨_, rfl, by cases e <;> rfl⟩

/-- With the line closed the scanner configures, opens and discards (R164). -/
theorem emitsLegally_beginCandidate {s : State} (hl : s.lineOpen = false) (t : Stamp) :
    EmitsLegally s.lineOpen s (beginCandidate t s) := by
  rcases beginCandidate_cases t s with ⟨-, e⟩ | ⟨c, -, e⟩ <;> rw [e]
  · exact .of_port_eq rfl
  · rw [openCandidate_eq]
    exact ⟨_, rfl, by rw [hl]; rfl⟩

theorem emitsLegally_evaluate {s : State} (hl : s.lineOpen = false) (t : Stamp) :
    EmitsLegally s.lineOpen s (evaluate t s) := by
  rcases evaluate_cases t s with ⟨-, e⟩ | ⟨-, e⟩ <;> rw [e]
  · exact .of_port_eq rfl
  · exact emitsLegally_beginCandidate (s := { s with candIdx := s.candIdx + 1 }) hl t

/-- The scanner finds the handle open unless the source has ended by itself (R170). -/
theorem emitsLegally_scanEvent {s : State} (hl : s.lineOpen = true) (t : Stamp) (ev : LineEvent) :
    EmitsLegally (closes ev) s (scanEvent t ev s) := by
  cases hc : s.cancelReq with
  | true =>
    rw [scanEvent_of_cancel hc]
    exact (emitsLegally_observed _ s).trans (.of_port_eq rfl)
  | false =>
    rcases scanEvent_of_not_cancel hc t ev with ⟨-, e⟩ | ⟨hev, ⟨b, e⟩ | e⟩ <;> rw [e]
    · exact (emitsLegally_observed _ s).trans (emitsLegally_evaluate rfl t)
    · rw [hev, ← hl]
      exact .of_port_eq (port_reassemble t b s)
    · rw [hev, ← hl]
      exact .of_port_eq rfl

/-! The host commands. -/

theorem Invariant.lineOpen_of_ne_idle {s : State} (h : Invariant s) (hm : s.mode ≠ .idle) : s.lineOpen = true := by
  obtain ⟨hopen, -⟩ := h.line
  exact hopen.2 hm

/-- In IDLE the line is closed: `OPEN` configures and opens (R205). -/
theorem emitsLegally_openCommand {s : State} (h : Invariant s) (t : Stamp) :
    EmitsLegally s.lineOpen s (openCommand t s) := by
  rcases openCommand_cases t s with ⟨-, e⟩ | ⟨hm, -, p, -, e⟩ <;> rw [e]
  · exact .of_port_eq rfl
  · rw [h.lineClosed_of_idle hm]
    exact ⟨_, List.append_assoc .., rfl⟩

/-- In CAPTURE the line is open: `CLOSE` closes it (R206). -/
theorem emitsLegally_closeCommand {s : State} (h : Invariant s) : EmitsLegally s.lineOpen s (closeCommand s) := by
  rcases closeCommand_cases s with ⟨-, e⟩ | ⟨hm, e⟩ <;> rw [e]
  · exact .of_port_eq rfl
  · have hl : (flush s).lineOpen = true :=
      (congrArg Prod.snd (port_flush s)).trans (h.lineOpen_of_ne_idle (by simp [hm]))
    exact (EmitsLegally.of_port_eq (port_flush s)).trans ⟨[.closeSource], rfl, by rw [hl]; rfl⟩

theorem emitsLegally_scanStartCommand {s : State} (h : Invariant s) (t : Stamp) :
    EmitsLegally s.lineOpen s (scanStartCommand t s) := by
  rcases scanStartCommand_cases t s with ⟨-, e⟩ | ⟨hm, -, e⟩ <;> rw [e]
  · exact .of_port_eq rfl
  · exact emitsLegally_beginCandidate (s := { s with
        mode := .scan, candIdx := 0, cancelReq := false, scanOutcome := .none
        actWindow := s.scanWindow, actDiscard := optDiscard s.opts, actGraceEn := false })
      (h.lineClosed_of_idle hm) t

/-- `SOFT_RESET` closes a line that is open (R212). -/
theorem emitsLegally_softResetCommand (s : State) : EmitsLegally s.lineOpen s (softResetCommand s) := by
  unfold softResetCommand
  cases s.lineOpen with
  | true => exact ⟨[.closeSource], rfl, rfl⟩
  | false => exact .of_silent rfl rfl

theorem emitsLegally_runCommand {s : State} (h : Invariant s) (t : Stamp) (k : Word) :
    EmitsLegally s.lineOpen s (runCommand t k s) := by
  unfold runCommand
  split
  · exact emitsLegally_openCommand h t
  · exact emitsLegally_closeCommand h
  · exact emitsLegally_scanStartCommand h t
  · exact .of_port_eq (port_scanCancelCommand s)
  · exact .of_port_eq (port_recPopCommand s)
  · exact emitsLegally_softResetCommand s
  · exact .of_port_eq rfl

/-! The line events in each mode, and the step. -/

theorem emitsLegally_rxbyte {s s' : State} {t : Stamp} {b : Byte} (h : Invariant s)
    (he : exec (.rxbyte t b) s = .next s') : EmitsLegally s.lineOpen s s' := by
  obtain rfl := Host.Outcome.next.inj he
  cases hm : s.mode with
  | idle => exact .of_port_eq rfl
  | capture => exact .of_port_eq (port_reassemble t b s)
  | scan =>
    have hl := h.lineOpen_of_ne_idle (by simp [hm])
    rw [hl]
    exact emitsLegally_scanEvent hl t (.byte b)

/-- The source has ended by itself, so the handle is gone (R89, R170). -/
theorem emitsLegally_rxend {s s' : State} {t : Stamp} (h : Invariant s) (he : exec (.rxend t) s = .next s') :
    EmitsLegally false s s' := by
  obtain rfl := Host.Outcome.next.inj he
  cases hm : s.mode with
  | idle => exact .of_silent rfl (h.lineClosed_of_idle hm)
  | capture => exact .of_silent (congrArg Prod.fst (port_flush s)) rfl
  | scan => exact emitsLegally_scanEvent (h.lineOpen_of_ne_idle (by simp [hm])) t .ended

theorem emitsLegally_tick {s s' : State} {t : Stamp} (h : Invariant s) (he : exec (.tick t) s = .next s') :
    EmitsLegally s.lineOpen s s' := by
  obtain rfl := Host.Outcome.next.inj he
  cases hm : s.mode with
  | idle => exact .of_port_eq rfl
  | capture => exact .of_port_eq rfl
  | scan =>
    have hl := h.lineOpen_of_ne_idle (by simp [hm])
    rw [hl]
    exact emitsLegally_scanEvent hl t .tick

/-- The handle as an input finds it, with the line open or not (R89, R170, R250). -/
def handleAt : Input → Bool → Bool
  | .ended _, _ => false
  | .hardReset, _ => false
  | _, lineOpen => lineOpen

theorem handleBefore_cons {s : State} {x : Input} {rest : List Input} (hi : s.inputs = x :: rest) :
    handleBefore s = handleAt x s.lineOpen := by
  rw [handleBefore, hi]
  cases x <;> rfl

theorem handleBefore_nil {s : State} (hi : s.inputs = []) : handleBefore s = s.lineOpen := by
  simp only [handleBefore, hi]

/-- Every operation that an input can be, from the handle as the input finds it. -/
theorem emitsLegally_of_input {s s' : State} {x : Input} {i : Instr} (h : Invariant s)
    (hd : decodeInput x = .ok i) (he : exec i s = .next s') : EmitsLegally (handleAt x s.lineOpen) s s' := by
  rcases decodeInput_cases hd with ⟨t, b, rfl, rfl⟩ | ⟨t, rfl, rfl⟩ | ⟨t, rfl, rfl⟩ | ⟨rfl, rfl⟩ | ⟨t, v, rfl, rfl⟩ |
      ⟨t, r, v, hr, rfl, rfl⟩ | ⟨t, r, rfl, rfl⟩
  · exact emitsLegally_rxbyte h he
  · exact emitsLegally_rxend h he
  · exact emitsLegally_tick h he
  · exact .of_port_eq (port_decodeStep he)
  · rw [exec_commandInstr] at he
    obtain rfl := Host.Outcome.next.inj he
    exact emitsLegally_runCommand h t v
  · obtain rfl := Host.Outcome.next.inj he
    exact .of_port_eq (port_writeRegister t v hr s)
  · obtain rfl := Host.Outcome.next.inj he
    exact .of_port_eq (port_afterRead r s)

/-- Settles O44, by the four things a step can be and what each operation an input can be emits. -/
theorem neverMoreThanOneHandle : Obligations.NeverMoreThanOneHandle := by
  unfold Obligations.NeverMoreThanOneHandle
  intro s s' h hstep
  change EmitsLegally (handleBefore s) s s'
  rcases step_next_cases hstep with ⟨hi, -, -, rfl⟩ | ⟨hi, -, he⟩ | ⟨rest, hi, rfl⟩ | ⟨x, rest, now, i, hi, ht, hd, he⟩
  · rw [handleBefore_nil hi]
    exact .of_port_eq rfl
  · rw [handleBefore_nil hi]
    exact .of_port_eq (port_decodeStep he)
  · rw [handleBefore_cons hi]
    exact .of_silent rfl rfl
  · rw [handleBefore_cons hi]
    exact emitsLegally_of_input (s := { s with inputs := rest, time := now })
      (invariant_setTime rest h (timeAfter_le ht)) hd he

end Sys2Proof.Machine
end

section
/-! PROOFS. The statements of 45_pipeline.md: what the step runs (R186), what `DECODE_STEP` does with the head of CFQ
(R189 to R191), and that the two queues are FIFOs along every step (R187, R48). -/

namespace Sys2Proof.Machine

open Sys2Proof.Statement

/-! What the step runs. -/

/-- `TIME` as an input that is not from before it finds it (R6, R8). -/
theorem timeAfter_of_le {x : Input} {now : Stamp} (h : ∀ t, inputStamp x = some t → now.toNat ≤ t.toNat) :
    timeAfter x now = some ((inputStamp x).getD now) := by
  cases hx : inputStamp x with
  | none => simp only [timeAfter, hx, Option.getD_none]
  | some t => rw [timeAfter_of_stamp hx, if_pos (h t hx), Option.getD_some]

/-- Settles O5: the input is not refused for its time, and the decoder reads a code at the ports as the step does. -/
theorem stepRunsTheArrivedOperation : Obligations.StepRunsTheArrivedOperation := by
  unfold Obligations.StepRunsTheArrivedOperation
  intro s x rest i hi hd hle
  exact step_of_decodeInput_ok hi (timeAfter_of_le hle) hd

/-- With nothing to arrive the decode stage acts, or time passes (R189, R6). -/
theorem fetch_of_inputs_nil {s : State} (h : s.inputs = []) :
    fetch s = if s.cfq = [] then .settled (passTime s) else .run .decodeStep s := by
  simp only [fetch, h]

/-- Settles O6, by whether CFQ is empty. -/
theorem stepWithoutInputsDecodesOrWaits : Obligations.StepWithoutInputsDecodesOrWaits := by
  unfold Obligations.StepWithoutInputsDecodesOrWaits
  intro s hi
  refine ⟨fun hq => ?_, fun hq hlt => ?_⟩
  · rw [step, fetch_of_inputs_nil hi, if_neg hq]
  · rw [step, fetch_of_inputs_nil hi, if_pos hq]
    exact if_pos hlt

/-! The head of CFQ. -/

/-- The frame a record was made from. -/
def recordFrame (d : DecodedFrame) : RtuFrame := ⟨d.address, d.function, d.payload, d.crcLo, d.crcHi⟩

/-- No layout changes what the record has of its frame. -/
theorem recordFrame_layout {form : DecodedFrame → DecodedFrame} (hform : form ∈ dispatchLayouts) (d : DecodedFrame) :
    recordFrame (form d) = recordFrame d := by
  simp only [dispatchLayouts, List.mem_cons, List.not_mem_nil, or_false] at hform
  rcases hform with rfl | rfl | rfl | rfl | rfl
  · rfl
  · rw [readFrame]; split <;> rfl
  · rfl
  · rw [writeMulti]; split_ifs <;> rfl
  · rfl

/-- A record keeps its frame (R112). -/
theorem recordFrame_decodeRecord (h : FrameHead) (fn : Byte) (p : List Byte) :
    recordFrame (decodeRecord h fn p) = ⟨h.address, fn, p, h.crcLo, h.crcHi⟩ := by
  obtain ⟨form, hform, hrecord⟩ := decodeRecord_layout fn
  rw [hrecord, recordFrame_layout hform]
  rfl

/-- A record keeps the time stamp of its frame (R112). -/
theorem decodeRecord_ts (h : FrameHead) (fn : Byte) (p : List Byte) : (decodeRecord h fn p).ts = h.ts := by
  rw [decodeRecord_eq_withHead]
  rfl

/-- A record's `crcValid` is the comparison of its frame's CRC (R103). -/
theorem decodeRecord_crcValid (h : FrameHead) (fn : Byte) (p : List Byte) :
    (decodeRecord h fn p).crcValid = crcOk h fn p := by
  obtain ⟨-, -, hcrc, -⟩ := recordInv_decodeRecord h fn p
  rw [hcrc, ← frameCrcValid_eq_crcOk, ← recordFrame_decodeRecord h fn p]
  rfl

/-- `DECODE_STEP` consumes the frame at the head of CFQ and stages its record (R189). -/
theorem exec_decodeStep_of_frameBytes {s : State} {ts : Stamp} {g : Bool} {h : FrameHead} {fn : Byte} {p : List Byte}
    {rest : List CandidateFrame} (hq : s.cfq = ⟨frameBytes h fn p, ts, g⟩ :: rest) :
    exec .decodeStep s =
      .next (staged g (decodeRecord ⟨ts, g, h.address, h.crcLo, h.crcHi⟩ fn p) { s with cfq := rest }) := by
  rw [execDecodeStep_of_parse hq (RtuFrame.parse_bytes ⟨h.address, fn, p, h.crcLo, h.crcHi⟩), decodeStage_eq_staged]

/-- Settles O25: a head of 4 bytes or more is parsed, and the record keeps the frame that it is the bytes of. -/
theorem decodeStepConsumesTheHead : Obligations.DecodeStepConsumesTheHead := by
  unfold Obligations.DecodeStepConsumesTheHead
  refine fun s => ⟨execDecodeStep_of_empty, fun cf rest hq hlen => ?_⟩
  cases hp : RtuFrame.parse cf.bytes with
  | none => exact absurd ((RtuFrame.parse_eq_none_iff cf.bytes).1 hp) (not_lt.2 hlen)
  | some f =>
    refine ⟨decodeRecord ⟨cf.ts, cf.inGrace, f.address, f.crcLo, f.crcHi⟩ f.function f.payload,
      decodeRecord_ts _ _ _, ?_, ?_⟩
    · rw [← RtuFrame.bytes_of_parse hp]
      exact congrArg RtuFrame.bytes (recordFrame_decodeRecord _ _ _)
    · rw [execDecodeStep_of_parse hq hp, decodeStage_eq_staged]

/-- A record that the grace filter does not take is dropped or pushed (R190, R191). -/
theorem staged_of_not_filtered {g : Bool} {d : DecodedFrame} (h : g = false ∨ d.crcValid = true) (s : State) :
    staged g d s =
      if s.dfq.length = s.cfg.dfqDepth then { s with flags := s.flags ||| 0x08#32 }
      else { s with dfq := s.dfq ++ [d] } := by
  refine if_neg ?_
  rintro ⟨rfl, hv⟩
  simp [hv] at h

/-- Settles O26: the filter does not take the record, and DFQ has no room for it. -/
theorem fullDfqDropsTheNewestFrame : Obligations.FullDfqDropsTheNewestFrame := by
  unfold Obligations.FullDfqDropsTheNewestFrame
  intro s ts g h fn p rest hq hg hfull
  have hcrc := decodeRecord_crcValid ⟨ts, g, h.address, h.crcLo, h.crcHi⟩ fn p
  rw [exec_decodeStep_of_frameBytes hq, staged_of_not_filtered (hg.imp_right hcrc.trans)]
  exact congrArg _ (if_pos hfull)

/-- Settles O27: the record's `crcValid` decides whether the filter takes it. -/
theorem graceFilterDropsOnlyInvalidFrames : Obligations.GraceFilterDropsOnlyInvalidFrames := by
  unfold Obligations.GraceFilterDropsOnlyInvalidFrames
  intro s ts h fn p rest hq
  have hcrc := decodeRecord_crcValid ⟨ts, true, h.address, h.crcLo, h.crcHi⟩ fn p
  rw [exec_decodeStep_of_frameBytes hq]
  refine ⟨fun hv => congrArg _ (if_pos ⟨rfl, hcrc.trans hv⟩), fun hv hroom => ⟨_, hcrc.trans hv, ?_⟩⟩
  rw [staged_of_not_filtered (.inr (hcrc.trans hv))]
  exact congrArg _ (if_neg hroom)

/-! The queues as FIFOs (R187, R48). -/

/-- What may become of a FIFO whose entries are `admits`: it is kept, its head is taken, or one entry is added at its
tail. -/
inductive FifoStep {α : Type} (admits : α → Prop) (q : List α) : List α → Prop where
  | kept : FifoStep admits q q
  | popped {x : α} {rest : List α} (h : q = x :: rest) : FifoStep admits q rest
  | pushed {x : α} (h : admits x) : FifoStep admits q (q ++ [x])

theorem fifoStep_iff {α : Type} {admits : α → Prop} {q q' : List α} :
    FifoStep admits q q' ↔ q' = q ∨ (∃ x, q = x :: q') ∨ ∃ x, q' = q ++ [x] ∧ admits x := by
  constructor
  · rintro (_ | ⟨h⟩ | ⟨h⟩)
    · exact .inl rfl
    · exact .inr (.inl ⟨_, h⟩)
    · exact .inr (.inr ⟨_, rfl, h⟩)
  · rintro (rfl | ⟨x, h⟩ | ⟨x, rfl, h⟩)
    · exact .kept
    · exact .popped h
    · exact .pushed h

/-- From `s` to `s'` both queues behave as FIFOs, and CFQ takes frames of 4 bytes or more only (R86). -/
def FifoSteps (s s' : State) : Prop :=
  FifoStep (fun cf : CandidateFrame => 4 ≤ cf.bytes.length) s.cfq s'.cfq ∧ FifoStep (fun _ => True) s.dfq s'.dfq

/-- The two queues. -/
def queues (s : State) : List CandidateFrame × List DecodedFrame := (s.cfq, s.dfq)

theorem FifoSteps.of_queues_eq {s s' : State} (e : queues s' = queues s) : FifoSteps s s' := by
  obtain ⟨hcfq, hdfq⟩ := Prod.mk.inj e
  exact ⟨hcfq ▸ .kept, hdfq ▸ .kept⟩

theorem FifoSteps.trans_queues_eq {s u s' : State} (h : FifoSteps s u) (e : queues s' = queues u) : FifoSteps s s' := by
  obtain ⟨hcfq, hdfq⟩ := Prod.mk.inj e
  unfold FifoSteps
  rwa [hcfq, hdfq]

/-- What leaves the queues and the line's configuration alone leaves the queues alone. -/
theorem queues_of_queuesAndLine {s s' : State} (e : queuesAndLine s' = queuesAndLine s) : queues s' = queues s :=
  congrArg (fun x => (x.1, x.2.1)) e

/-! The Reassembler: at most one frame enters CFQ. -/

theorem fifoSteps_deliver (g : Segment) (s : State) : FifoSteps s (deliver g s) := by
  rcases deliver_cases g s with ⟨-, e⟩ | ⟨-, -, e⟩ | ⟨h4, -, e⟩ <;> rw [e]
  · exact .of_queues_eq rfl
  · exact .of_queues_eq rfl
  · rcases pushCandidate_cases ⟨g.bytes, g.ts, inGraceWindow g.ts s⟩ s with ⟨-, e'⟩ | ⟨-, e'⟩ <;> rw [e']
    · exact .of_queues_eq rfl
    · exact ⟨.pushed h4, .kept⟩

theorem fifoSteps_cutSegment (s : State) : FifoSteps s (cutSegment s) :=
  fifoSteps_deliver (currentSegment s) { s with buf := [] }

theorem fifoSteps_flush (s : State) : FifoSteps s (flush s) := by
  unfold flush
  split
  · exact .of_queues_eq rfl
  · exact fifoSteps_cutSegment s

theorem fifoSteps_boundary (t : Stamp) (s : State) : FifoSteps s (boundary t s) := by
  rcases boundary_cases t s with ⟨-, -, e⟩ | ⟨-, -, -, e⟩ | ⟨-, e⟩ <;> rw [e]
  · exact fifoSteps_cutSegment s
  · exact .of_queues_eq rfl
  · exact .of_queues_eq rfl

theorem fifoSteps_reassemble (t : Stamp) (b : Byte) (s : State) : FifoSteps s (reassemble t b s) :=
  (fifoSteps_boundary t s).trans_queues_eq (queues_of_queuesAndLine (queuesAndLine_storeByte b _))

/-! The decode stage: CFQ's head leaves, and at most one record enters DFQ. -/

theorem fifoStep_decodeStage (g : Bool) (d : DecodedFrame) (s : State) :
    (decodeStage g d s).cfq = s.cfq ∧ FifoStep (fun _ => True) s.dfq (decodeStage g d s).dfq := by
  rcases decodeStage_cases g d s with ⟨-, -, e⟩ | ⟨-, -, e⟩ | ⟨-, -, e⟩ <;> rw [e]
  · exact ⟨rfl, .kept⟩
  · exact ⟨rfl, .kept⟩
  · exact ⟨rfl, .pushed trivial⟩

theorem fifoSteps_decodeStep {s s' : State} (he : exec .decodeStep s = .next s') : FifoSteps s s' := by
  rcases execDecodeStep_cases s with ⟨-, e⟩ | ⟨cf, rest, hq, -, e⟩ | ⟨cf, rest, f, hq, -, e⟩ <;>
    rw [show exec .decodeStep s = execDecodeStep s from rfl, e] at he
  · cases he
  · obtain rfl := Host.Outcome.next.inj he
    exact ⟨.popped hq, .kept⟩
  · obtain rfl := Host.Outcome.next.inj he
    obtain ⟨hcfq, hdfq⟩ := fifoStep_decodeStage cf.inGrace
      (decodeRecord ⟨cf.ts, cf.inGrace, f.address, f.crcLo, f.crcHi⟩ f.function f.payload) { s with cfq := rest }
    exact ⟨.popped (hq.trans (congrArg _ hcfq.symm)), hdfq⟩

/-! The host commands but `SOFT_RESET`, and the registers. -/

theorem queues_openCommand (t : Stamp) (s : State) : queues (openCommand t s) = queues s := by
  rcases openCommand_cases t s with ⟨-, e⟩ | ⟨-, -, p, -, e⟩ <;> rw [e] <;> rfl

theorem fifoSteps_closeCommand (s : State) : FifoSteps s (closeCommand s) := by
  rcases closeCommand_cases s with ⟨-, e⟩ | ⟨-, e⟩ <;> rw [e]
  · exact .of_queues_eq rfl
  · exact (fifoSteps_flush s).trans_queues_eq rfl

theorem queues_scanStartCommand (t : Stamp) (s : State) : queues (scanStartCommand t s) = queues s := by
  rcases scanStartCommand_cases t s with ⟨-, e⟩ | ⟨-, -, e⟩ <;> rw [e]
  · rfl
  · exact queues_of_queuesAndLine (queuesAndLine_beginCandidate t _)

theorem queues_scanCancelCommand (s : State) : queues (scanCancelCommand s) = queues s := by
  rcases scanCancelCommand_cases s with ⟨-, e⟩ | ⟨-, e⟩ <;> rw [e] <;> rfl

theorem fifoSteps_recPopCommand (s : State) : FifoSteps s (recPopCommand s) := by
  rcases recPopCommand_cases s with ⟨-, e⟩ | ⟨d, rest, hq, e⟩ <;> rw [e]
  · exact .of_queues_eq rfl
  · exact ⟨.kept, .popped hq⟩

/-- Every value of `CMD` but that of `SOFT_RESET` (R72). -/
theorem fifoSteps_runCommand (t : Stamp) {k : Word} (hk : k ≠ 6) (s : State) : FifoSteps s (runCommand t k s) := by
  unfold runCommand
  split
  · exact .of_queues_eq (queues_openCommand t s)
  · exact fifoSteps_closeCommand s
  · exact .of_queues_eq (queues_scanStartCommand t s)
  · exact .of_queues_eq (queues_scanCancelCommand s)
  · exact fifoSteps_recPopCommand s
  next h6 => exact absurd (BitVec.eq_of_toNat_eq h6) hk
  · exact .of_queues_eq rfl

theorem queues_writeRegister (t : Stamp) {r : Reg} (v : Word) (hr : r ≠ .cmd) (s : State) :
    queues (writeRegister t r v s) = queues s := by
  cases r with
  | cmd => exact absurd rfl hr
  | _ => rfl

theorem queues_afterRead (r : Reg) (s : State) : queues (afterRead r s) = queues s := by
  cases r with
  | recData => simp only [afterRead]; split <;> rfl
  | _ => rfl

/-! The line events in each mode, and the step. -/

theorem fifoSteps_scanEvent {s : State} (hm : s.mode = .scan) (t : Stamp) (ev : LineEvent) :
    FifoSteps s (scanEvent t ev s) :=
  .of_queues_eq (queues_of_queuesAndLine (queuesAndLine_scanEvent hm t ev))

theorem fifoSteps_rxbyte {s s' : State} {t : Stamp} {b : Byte} (he : exec (.rxbyte t b) s = .next s') :
    FifoSteps s s' := by
  obtain rfl := Host.Outcome.next.inj he
  cases hm : s.mode with
  | idle => exact .of_queues_eq rfl
  | capture => exact fifoSteps_reassemble t b s
  | scan => exact fifoSteps_scanEvent hm t (.byte b)

theorem fifoSteps_rxend {s s' : State} {t : Stamp} (he : exec (.rxend t) s = .next s') : FifoSteps s s' := by
  obtain rfl := Host.Outcome.next.inj he
  cases hm : s.mode with
  | idle => exact .of_queues_eq rfl
  | capture => exact (fifoSteps_flush s).trans_queues_eq rfl
  | scan => exact fifoSteps_scanEvent hm t .ended

theorem fifoSteps_tick {s s' : State} {t : Stamp} (he : exec (.tick t) s = .next s') : FifoSteps s s' := by
  obtain rfl := Host.Outcome.next.inj he
  cases hm : s.mode with
  | idle => exact .of_queues_eq rfl
  | capture => exact .of_queues_eq rfl
  | scan => exact fifoSteps_scanEvent hm t .tick

/-- Every operation that an input can be, but `SOFT_RESET`. -/
theorem fifoSteps_of_input {s s' : State} {x : Input} {i : Instr} (hr : ∀ t, x ≠ .write t 0 32 6)
    (hd : decodeInput x = .ok i) (he : exec i s = .next s') : FifoSteps s s' := by
  rcases decodeInput_cases hd with ⟨t, b, rfl, rfl⟩ | ⟨t, rfl, rfl⟩ | ⟨t, rfl, rfl⟩ | ⟨rfl, rfl⟩ | ⟨t, v, rfl, rfl⟩ |
      ⟨t, r, v, hcmd, rfl, rfl⟩ | ⟨t, r, rfl, rfl⟩
  · exact fifoSteps_rxbyte he
  · exact fifoSteps_rxend he
  · exact fifoSteps_tick he
  · exact fifoSteps_decodeStep he
  · rw [exec_commandInstr] at he
    obtain rfl := Host.Outcome.next.inj he
    exact fifoSteps_runCommand t (fun hv => hr t (hv ▸ rfl)) s
  · obtain rfl := Host.Outcome.next.inj he
    exact .of_queues_eq (queues_writeRegister t v hcmd s)
  · obtain rfl := Host.Outcome.next.inj he
    exact .of_queues_eq (queues_afterRead r s)

/-- Every step but a reset. -/
theorem fifoSteps_step {s s' : State} (h : step s = .next s') (hr : ¬ ResetNext s) : FifoSteps s s' := by
  rcases step_next_cases h with ⟨-, -, -, rfl⟩ | ⟨-, -, he⟩ | ⟨rest, hi, -⟩ | ⟨x, rest, now, i, hi, -, hd, he⟩
  · exact .of_queues_eq rfl
  · exact fifoSteps_decodeStep he
  · exact absurd (.inl ⟨rest, hi⟩) hr
  · refine fifoSteps_of_input (s := { s with inputs := rest, time := now }) ?_ hd he
    rintro t rfl
    exact hr (.inr ⟨t, rest, hi⟩)

/-- Settles O55, by the four things a step can be and what each operation an input can be does to the two queues. -/
theorem queuesAreFirstInFirstOut : Obligations.QueuesAreFirstInFirstOut := by
  unfold Obligations.QueuesAreFirstInFirstOut
  intro s s' h hr
  obtain ⟨hcfq, hdfq⟩ := fifoSteps_step h hr
  exact ⟨fifoStep_iff.1 hcfq, by simpa using fifoStep_iff.1 hdfq⟩

end Sys2Proof.Machine
end

section
/-! PROOFS. The statements of 46_host_commands.md: the byte-source port (R201 to R204), the commands `OPEN`, `CLOSE` and
`REC_POP` (R205 to R207), and the register accesses (R208, R209). -/

namespace Sys2Proof.Machine

open Sys2Proof.Statement

/-! The LinkConfig that `BAUD` and `LINECFG` hold, in the bits of R71. -/

theorem linecfgDataBits_eq_eight_iff (w : Word) : linecfgDataBits w = .eight ↔ w.getLsbD 0 = true := by
  unfold linecfgDataBits
  cases w.getLsbD 0 <;> simp

theorem linecfgStopBits_eq_two_iff (w : Word) : linecfgStopBits w = .two ↔ w.getLsbD 3 = true := by
  unfold linecfgStopBits
  cases w.getLsbD 3 <;> simp

/-- The field `PARITY` of a `LINECFG` word is its bits 2 and 1. -/
theorem extractLsb'_parity (w : Word) :
    w.extractLsb' 1 2 = BitVec.ofBool (w.getLsbD 2) ++ BitVec.ofBool (w.getLsbD 1) := by
  apply BitVec.eq_of_getLsbD_eq
  intro i hi
  rw [BitVec.getLsbD_extractLsb', BitVec.getLsbD_append]
  interval_cases i <;> simp

/-- `PARITY` is a parity where it holds that parity's code (R17). -/
theorem linecfgParity_eq_some_iff (w : Word) (p : Parity) :
    linecfgParity w = some p ↔ w.extractLsb' 1 2 = parityCode p := by
  rw [linecfgParity, extractLsb'_parity]
  cases w.getLsbD 2 <;> cases w.getLsbD 1 <;> cases p <;> decide

/-- `PARITY` is no parity where it holds the reserved value 3 (R17). -/
theorem linecfgParity_eq_none_iff (w : Word) : linecfgParity w = none ↔ w.extractLsb' 1 2 = 3#2 := by
  rw [linecfgParity, extractLsb'_parity]
  cases w.getLsbD 2 <;> cases w.getLsbD 1 <;> decide

theorem eq_iff_of_linecfgParity {w : Word} {p : Parity} (h : linecfgParity w = some p) (q : Parity) :
    p = q ↔ w.extractLsb' 1 2 = parityCode q := by
  rw [← linecfgParity_eq_some_iff, h, Option.some.injEq]

/-! The commands. -/

/-- Settles O37: the registers hold a LinkConfig unless `PARITY` is 3, and an accepted `OPEN` configures the source
with it. -/
theorem openLatchesAndOpens : Obligations.OpenLatchesAndOpens := by
  unfold Obligations.OpenLatchesAndOpens
  refine fun s t => ⟨fun h => ?_, fun hm hb hp => ?_⟩
  · have hrefused := h.imp_right (Or.imp_right (linecfgParity_eq_none_iff s.linecfg).2)
    exact congrArg Host.Outcome.next (openCommand_of_refused hrefused)
  · obtain ⟨p, hparity⟩ := Option.ne_none_iff_exists'.1 (mt (linecfgParity_eq_none_iff s.linecfg).1 hp)
    refine ⟨⟨s.baud, linecfgDataBits s.linecfg, p, linecfgStopBits s.linecfg⟩, rfl, linecfgDataBits_eq_eight_iff _,
      eq_iff_of_linecfgParity hparity .none, eq_iff_of_linecfgParity hparity .even,
      eq_iff_of_linecfgParity hparity .odd, linecfgStopBits_eq_two_iff _, ?_⟩
    refine (congrArg Host.Outcome.next (openCommand_of_accepted hm hb hparity)).trans ?_
    simp [optDiscard, optGrace]

/-- Settles O38: the flush of CAPTURE, then `SRC_CLOSE`. -/
theorem closeFlushesAndCloses : Obligations.CloseFlushesAndCloses := by
  unfold Obligations.CloseFlushesAndCloses
  refine fun s t => ⟨fun hm => congrArg Host.Outcome.next (if_pos hm), fun hm => ?_⟩
  have hclose : closeCommand s = { closeSource (flush s) with mode := .idle } := if_neg (not_not.2 hm)
  refine congrArg Host.Outcome.next (hclose.trans ?_)
  rw [flush_of_not_scan (by simp [hm])]
  rfl

/-- Settles O39, by whether DFQ has a head. -/
theorem recPopRemovesTheHead : Obligations.RecPopRemovesTheHead := by
  unfold Obligations.RecPopRemovesTheHead
  exact fun s t => ⟨fun hq => congrArg Host.Outcome.next (recPopCommand_nil hq),
    fun d rest hq => congrArg Host.Outcome.next (recPopCommand_cons hq)⟩

/-! The byte-source port. -/

/-- Settles O43: each action branches on `LINE_OPEN` alone. -/
theorem sourceActionsAndTheHandle : Obligations.SourceActionsAndTheHandle := by
  unfold Obligations.SourceActionsAndTheHandle
  refine fun s c => ⟨fun hclosed => ?_, fun hopen => ?_⟩
  · have h : ¬ s.lineOpen = true := by simp [hclosed]
    exact ⟨if_neg h, if_neg h, ⟨_, if_neg h⟩, ⟨_, if_neg h⟩⟩
  · exact ⟨if_pos hopen, if_pos hopen, ⟨_, if_pos hopen⟩, ⟨_, if_pos hopen⟩⟩

/-! The registers. -/

/-- Settles O45: a write is its register's arm, a masked value is its low bits, and `CMD` decodes to the command that
the register runs. -/
theorem registerWrites : Obligations.RegisterWrites := by
  unfold Obligations.RegisterWrites
  refine fun s t v => ⟨rfl, ?_, ?_, rfl, rfl, rfl, fun i hi => ?_, fun r hr => ?_⟩
  · exact congrArg (fun w => Host.Outcome.next { s with linecfg := w }) (and_linecfgMask v)
  · exact congrArg (fun w => Host.Outcome.next { s with opts := w }) (and_optsMask v)
  · obtain rfl : commandInstr t v = i := Except.ok.inj ((decode_encodeWrite_cmd t v).symm.trans hi)
    exact (exec_commandInstr t v s).symm
  · exact congrArg Host.Outcome.next (writeRegister_of_mem_readOnlyRegs hr t v s)

/-- `ACT_OPTS` as its fields (R71). -/
theorem readRegister_actOpts_eq_fields (s : State) :
    readRegister .actOpts s = field 0 (BitVec.ofBool s.actDiscard) ||| field 1 (BitVec.ofBool s.actGraceEn) := by
  rw [← bit_shiftLeft_eq_field, ← bit_shiftLeft_eq_field, BitVec.shiftLeft_zero]
  rfl

/-- The bits of `ACT_OPTS` (R71). -/
theorem readRegister_actOpts_layout (s : State) :
    (readRegister .actOpts s).getLsbD 0 = s.actDiscard ∧ (readRegister .actOpts s).getLsbD 1 = s.actGraceEn
      ∧ (readRegister .actOpts s).extractLsb' 2 30 = 0 := by
  rw [readRegister_actOpts_eq_fields]
  refine ⟨getLsbD_eq_of_extractLsb'_one ?_, getLsbD_eq_of_extractLsb'_one ?_, ?_⟩ <;> simp [BitVec.extractLsb'_or]

/-- Settles O46: the read returns the register's word, which is stored, masked, 0, a counter that fits or `ACT_OPTS`. -/
theorem registerReadsChangeNothing : Obligations.RegisterReadsChangeNothing := by
  unfold Obligations.RegisterReadsChangeNothing
  intro s t r hr
  refine ⟨readRegister r s, exec_rd_of_ne_recData t s hr, ?zero, ?flags, ?_, ?_, ?_, ?_, ?_, ?_, ?_, ?linecfg,
    ?actLinecfg, ?foundLinecfg, ?opts, ?actOpts, ?candIdx, ?scanTotal, ?scanValid⟩
  case zero => rintro (rfl | rfl | rfl) <;> rfl
  case flags => rintro rfl; exact ⟨extractLsb'_and_flagsMask_low s.flags, extractLsb'_and_flagsMask_high s.flags⟩
  case linecfg => rintro rfl; exact and_linecfgMask s.linecfg
  case actLinecfg => rintro rfl; exact and_linecfgMask s.actLinecfg
  case foundLinecfg => rintro rfl; exact and_linecfgMask s.foundLinecfg
  case opts => rintro rfl; exact and_optsMask s.opts
  case actOpts => rintro rfl; exact readRegister_actOpts_layout s
  case candIdx => rintro rfl; exact counterWord_toNat .candIdx
  case scanTotal => rintro rfl; exact counterWord_toNat .scanTotal
  case scanValid => rintro rfl; exact counterWord_toNat .scanValid
  all_goals -- the registers that show a stored word
    rintro rfl
    rfl

end Sys2Proof.Machine
end

section
/-! PROOFS. The statements of 60_exceptions.md: the mode transitions of R235 along every step, and the refused commands
(R226). -/

namespace Sys2Proof.Machine

open Sys2Proof.Statement

/-! The modes. -/

/-- An input may take `MODE` from the one mode to the other: the table of R235, in which `MODE` may also stay. -/
inductive ModeStep : Input → Mode → Mode → Prop where
  | kept {x : Input} {m m' : Mode} (h : m' = m) : ModeStep x m m'
  | opened (t : Stamp) : ModeStep (.write t 0 32 1) .idle .capture
  | scanStarted (t : Stamp) : ModeStep (.write t 0 32 3) .idle .scan
  | closed (t : Stamp) : ModeStep (.write t 0 32 2) .capture .idle
  | captureEnded (t : Stamp) : ModeStep (.ended t) .capture .idle
  | scanByte (t : Stamp) (b : Byte) : ModeStep (.rx t b) .scan .idle
  | scanEnded (t : Stamp) : ModeStep (.ended t) .scan .idle
  | scanTick (t : Stamp) : ModeStep (.tick t) .scan .idle
  | reset {x : Input} (h : x = .hardReset ∨ ∃ t, x = .write t 0 32 6) (m : Mode) : ModeStep x m .idle

/-- Where an operation has two outcomes for `MODE`, the table has to give both. -/
theorem ModeStep.of_eq_or_eq {x : Input} {m m' m₁ m₂ : Mode} (h : m' = m₁ ∨ m' = m₂) (h₁ : ModeStep x m m₁)
    (h₂ : ModeStep x m m₂) : ModeStep x m m' := by
  rcases h with rfl | rfl
  · exact h₁
  · exact h₂

/-! Operations that keep `MODE`. -/

theorem mode_reassemble (t : Stamp) (b : Byte) (s : State) : (reassemble t b s).mode = s.mode := by
  obtain ⟨u, q, f, n, v, e⟩ := reassemble_shape t b s
  rw [e]

/-- The decode stage writes the two queues and the flags, and nothing else (R189 to R191). -/
theorem exec_decodeStep_shape {s s' : State} (he : exec .decodeStep s = .next s') :
    ∃ c d f, s' = { s with cfq := c, dfq := d, flags := f } := by
  rcases execDecodeStep_cases s with ⟨-, e⟩ | ⟨cf, rest, -, -, e⟩ | ⟨cf, rest, f, -, -, e⟩ <;>
    rw [show exec .decodeStep s = execDecodeStep s from rfl, e] at he
  · cases he
  · exact ⟨rest, s.dfq, s.flags, (Host.Outcome.next.inj he).symm⟩
  · obtain ⟨q, w, e'⟩ := decodeStage_shape cf.inGrace
      (decodeRecord ⟨cf.ts, cf.inGrace, f.address, f.crcLo, f.crcHi⟩ f.function f.payload) { s with cfq := rest }
    exact ⟨rest, q, w, (Host.Outcome.next.inj he).symm.trans e'⟩

theorem mode_decodeStep {s s' : State} (he : exec .decodeStep s = .next s') : s'.mode = s.mode := by
  obtain ⟨c, d, f, rfl⟩ := exec_decodeStep_shape he
  rfl

theorem mode_scanCancelCommand (s : State) : (scanCancelCommand s).mode = s.mode := by
  rcases scanCancelCommand_cases s with ⟨-, e⟩ | ⟨-, e⟩ <;> simp [e]

theorem mode_recPopCommand (s : State) : (recPopCommand s).mode = s.mode := by
  rcases recPopCommand_cases s with ⟨-, e⟩ | ⟨d, rest, -, e⟩ <;> simp [e]

theorem mode_writeRegister (t : Stamp) {r : Reg} (v : Word) (hr : r ≠ .cmd) (s : State) :
    (writeRegister t r v s).mode = s.mode := by
  cases r with
  | cmd => exact absurd rfl hr
  | _ => rfl

theorem mode_afterRead (r : Reg) (s : State) : (afterRead r s).mode = s.mode :=
  congrArg (fun x => x.1.1) (session_afterRead r s)

/-! The scanner keeps `MODE` or ends the scan (R174). -/

theorem mode_beginCandidate (t : Stamp) (s : State) :
    (beginCandidate t s).mode = s.mode ∨ (beginCandidate t s).mode = .idle := by
  rcases beginCandidate_cases t s with ⟨-, e⟩ | ⟨c, -, e⟩ <;> rw [e]
  · exact .inr rfl
  · exact .inl rfl

theorem mode_evaluate (t : Stamp) (s : State) :
    (evaluate t s).mode = s.mode ∨ (evaluate t s).mode = .idle := by
  rcases evaluate_cases t s with ⟨-, e⟩ | ⟨-, e⟩ <;> rw [e]
  · exact .inr rfl
  · exact mode_beginCandidate t { s with candIdx := s.candIdx + 1 }

theorem mode_scanEvent (t : Stamp) (ev : LineEvent) (s : State) :
    (scanEvent t ev s).mode = s.mode ∨ (scanEvent t ev s).mode = .idle := by
  cases hc : s.cancelReq with
  | true =>
    rw [scanEvent_of_cancel hc]
    exact .inr rfl
  | false =>
    rcases scanEvent_of_not_cancel hc t ev with ⟨-, e⟩ | ⟨-, ⟨b, e⟩ | e⟩ <;> rw [e]
    · exact mode_evaluate t (observed (closes ev) s)
    · exact .inl (mode_reassemble t b s)
    · exact .inl rfl

/-! The line events in each mode. -/

theorem modeStep_rxbyte {s s' : State} {t : Stamp} {b : Byte} (he : exec (.rxbyte t b) s = .next s') :
    ModeStep (.rx t b) s.mode s'.mode := by
  obtain rfl := Host.Outcome.next.inj he
  cases hm : s.mode with
  | idle => exact .kept hm
  | capture => exact .kept ((mode_reassemble t b s).trans hm)
  | scan => exact .of_eq_or_eq (mode_scanEvent t (.byte b) s) (.kept hm) (.scanByte t b)

theorem modeStep_rxend {s s' : State} {t : Stamp} (he : exec (.rxend t) s = .next s') :
    ModeStep (.ended t) s.mode s'.mode := by
  obtain rfl := Host.Outcome.next.inj he
  cases hm : s.mode with
  | idle => exact .kept hm
  | capture => exact .captureEnded t
  | scan => exact .of_eq_or_eq (mode_scanEvent t .ended s) (.kept hm) (.scanEnded t)

theorem modeStep_tick {s s' : State} {t : Stamp} (he : exec (.tick t) s = .next s') :
    ModeStep (.tick t) s.mode s'.mode := by
  obtain rfl := Host.Outcome.next.inj he
  cases hm : s.mode with
  | idle => exact .kept hm
  | capture => exact .kept hm
  | scan => exact .of_eq_or_eq (mode_scanEvent t .tick s) (.kept hm) (.scanTick t)

/-! The host commands. -/

theorem modeStep_openCommand (t : Stamp) (s : State) :
    ModeStep (.write t 0 32 1) s.mode (openCommand t s).mode := by
  rcases openCommand_cases t s with ⟨-, e⟩ | ⟨hm, -, p, -, e⟩ <;> rw [e]
  · exact .kept rfl
  · rw [hm]; exact .opened t

theorem modeStep_closeCommand (t : Stamp) (s : State) :
    ModeStep (.write t 0 32 2) s.mode (closeCommand s).mode := by
  rcases closeCommand_cases s with ⟨-, e⟩ | ⟨hm, e⟩ <;> rw [e]
  · exact .kept rfl
  · rw [hm]; exact .closed t

/-- With no candidate the scan that `SCAN_START` begins is over at once (R166). -/
theorem modeStep_scanStartCommand (t : Stamp) (s : State) :
    ModeStep (.write t 0 32 3) s.mode (scanStartCommand t s).mode := by
  rcases scanStartCommand_cases t s with ⟨-, e⟩ | ⟨hm, -, e⟩ <;> rw [e]
  · exact .kept rfl
  · rw [hm]
    exact .of_eq_or_eq (mode_beginCandidate t _) (.scanStarted t) (.kept rfl)

theorem modeStep_runCommand (t : Stamp) (k : Word) (s : State) :
    ModeStep (.write t 0 32 k) s.mode (runCommand t k s).mode := by
  unfold runCommand
  split
  next h1 =>
    obtain rfl : k = 1 := BitVec.eq_of_toNat_eq h1
    exact modeStep_openCommand t s
  next h2 =>
    obtain rfl : k = 2 := BitVec.eq_of_toNat_eq h2
    exact modeStep_closeCommand t s
  next h3 =>
    obtain rfl : k = 3 := BitVec.eq_of_toNat_eq h3
    exact modeStep_scanStartCommand t s
  · exact .kept (mode_scanCancelCommand s)
  · exact .kept (mode_recPopCommand s)
  next h6 =>
    obtain rfl : k = 6 := BitVec.eq_of_toNat_eq h6
    exact .reset (.inr ⟨t, rfl⟩) _
  · exact .kept rfl

/-! The step. -/

/-- Every operation that an input can be. -/
theorem modeStep_of_input {s s' : State} {x : Input} {i : Instr} (hd : decodeInput x = .ok i)
    (he : exec i s = .next s') : ModeStep x s.mode s'.mode := by
  rcases decodeInput_cases hd with ⟨t, b, rfl, rfl⟩ | ⟨t, rfl, rfl⟩ | ⟨t, rfl, rfl⟩ | ⟨rfl, rfl⟩ | ⟨t, v, rfl, rfl⟩ |
      ⟨t, r, v, hr, rfl, rfl⟩ | ⟨t, r, rfl, rfl⟩
  · exact modeStep_rxbyte he
  · exact modeStep_rxend he
  · exact modeStep_tick he
  · exact .kept (mode_decodeStep he)
  · rw [exec_commandInstr] at he
    obtain rfl := Host.Outcome.next.inj he
    exact modeStep_runCommand t v s
  · obtain rfl := Host.Outcome.next.inj he
    exact .kept (mode_writeRegister t v hr s)
  · obtain rfl := Host.Outcome.next.inj he
    exact .kept (mode_afterRead r s)

/-- A step keeps `MODE` or runs an input that the table gives the transition (R235). -/
theorem step_modeStep {s s' : State} (h : step s = .next s') :
    s'.mode = s.mode ∨ ∃ x rest, s.inputs = x :: rest ∧ ModeStep x s.mode s'.mode := by
  rcases step_next_cases h with ⟨-, -, -, rfl⟩ | ⟨-, -, he⟩ | ⟨rest, hi, rfl⟩ | ⟨x, rest, now, i, hi, -, hd, he⟩
  · exact .inl rfl
  · exact .inl (mode_decodeStep he)
  · exact .inr ⟨.hardReset, rest, hi, .reset (.inl rfl) _⟩
  · exact .inr ⟨x, rest, hi, modeStep_of_input (s := { s with inputs := rest, time := now }) hd he⟩

/-- Settles O54, by the rows of the table: in IDLE a reset keeps the mode. -/
theorem onlyTheseModeTransitions : Obligations.OnlyTheseModeTransitions := by
  unfold Obligations.OnlyTheseModeTransitions
  intro s s' h hne
  obtain hm | ⟨x, rest, hi, hx⟩ := step_modeStep h
  · exact absurd hm.symm hne
  generalize s.mode = m, s'.mode = m' at hx hne
  cases hx with
  | kept hm => exact absurd hm.symm hne
  | opened t => exact .inl ⟨rfl, rfl, t, rest, hi⟩
  | scanStarted t => exact .inr (.inl ⟨rfl, rfl, t, rest, hi⟩)
  | closed t => exact .inr (.inr (.inl ⟨rfl, rfl, .inl ⟨t, rest, hi⟩⟩))
  | captureEnded t => exact .inr (.inr (.inl ⟨rfl, rfl, .inr (.inl ⟨t, rest, hi⟩)⟩))
  | scanByte t b => exact .inr (.inr (.inr ⟨rfl, rfl, .inl ⟨t, b, rest, hi⟩⟩))
  | scanEnded t => exact .inr (.inr (.inr ⟨rfl, rfl, .inr (.inl ⟨t, rest, hi⟩)⟩))
  | scanTick t => exact .inr (.inr (.inr ⟨rfl, rfl, .inr (.inr (.inl ⟨t, rest, hi⟩))⟩))
  | reset hreset =>
    have hr : ResetNext s := by
      obtain rfl | ⟨t, rfl⟩ := hreset
      · exact .inl ⟨rest, hi⟩
      · exact .inr ⟨t, rest, hi⟩
    cases m with
    | idle => exact absurd rfl hne
    | capture => exact .inr (.inr (.inl ⟨rfl, rfl, .inr (.inr hr)⟩))
    | scan => exact .inr (.inr (.inr ⟨rfl, rfl, .inr (.inr (.inr hr))⟩))

/-! The refused commands. -/

/-- Settles O41: each command's own statement says when it is refused, and a value that is no command always is. -/
theorem refusedCommandsSetOnlyTheFlag : Obligations.RefusedCommandsSetOnlyTheFlag := by
  unfold Obligations.RefusedCommandsSetOnlyTheFlag
  intro s t v refused
  obtain ⟨hopen, -⟩ := openLatchesAndOpens s t
  obtain ⟨hclose, -⟩ := closeFlushesAndCloses s t
  obtain ⟨hstart, -⟩ := scanStartOpensTheFirstCandidate s t
  obtain ⟨-, hcancel, -⟩ := cancelIsHonouredFirst s t
  obtain ⟨hpop, -⟩ := recPopRemovesTheHead s t
  exact ⟨hopen, hclose, hstart, hcancel, hpop, fun _ => rfl⟩

end Sys2Proof.Machine
end

section
/-! PROOFS. The statements of 70_reset_and_hazards.md: what a reset leaves (R250, R252), and what an endless run under
the fairness of R262 and R194 comes to. For a run the shape is always the same: something stands until the awaited step,
and fairness brings a step that cannot be any other. -/

namespace Sys2Proof.Machine

open Sys2Proof.Statement

/-! Reset. -/

theorem afterReset_hardReset (s : State) : AfterReset s s.actions (hardReset s) := ⟨0, 0, rfl⟩

/-- `SOFT_RESET` closes an open line first (R212). -/
theorem afterReset_softResetCommand (s : State) :
    AfterReset s (s.actions ++ if s.lineOpen then [.closeSource] else []) (softResetCommand s) := by
  unfold softResetCommand
  cases s.lineOpen with
  | true => exact afterReset_hardReset (emit .closeSource s)
  | false => exact (List.append_nil s.actions).symm ▸ afterReset_hardReset s

/-- The reset input is settled by the step itself (R250). -/
theorem step_of_hardReset {s : State} {rest : List Input} (hi : s.inputs = .hardReset :: rest) :
    step s = .next (hardReset { s with inputs := rest }) := by
  rw [step, fetch_of_inputs_cons hi]
  rfl

/-- Settles O40: both resets are `hardReset`, `SOFT_RESET` after it has closed an open line. -/
theorem resetPutsEveryElementAtItsValue : Obligations.ResetPutsEveryElementAtItsValue := by
  unfold Obligations.ResetPutsEveryElementAtItsValue
  exact ⟨fun s _ => ⟨softResetCommand s, rfl, afterReset_softResetCommand s⟩,
    fun s rest hi => ⟨_, step_of_hardReset hi, afterReset_hardReset { s with inputs := rest }⟩,
    fun _ => ⟨rfl, 0, 0, rfl⟩⟩

/-- A reset of either kind leaves the block idle (R250). -/
theorem mode_of_resetNext {s s' : State} (hr : ResetNext s) (h : step s = .next s') : s'.mode = .idle := by
  obtain ⟨rest, hi⟩ | ⟨t, rest, hi⟩ := hr
  · rw [step_of_hardReset hi] at h
    obtain rfl := Host.Outcome.next.inj h
    rfl
  · rw [step_of_decodeInput_ok hi (timeAfter_of_step hi rfl h) (decode_encodeWrite_cmd t 6), exec_commandInstr] at h
    obtain rfl := Host.Outcome.next.inj h
    rfl

/-! Endless runs. -/

/-- What stands until `Q` occurs makes `Q` occur, if at some moment nothing but `Q` can. -/
theorem occurs_of_holds_until {P Q : Nat → Prop} {n : Nat} (h : P n) (hs : ∀ k, n ≤ k → P k → P (k + 1) ∨ Q k)
    (hf : ∃ m, n ≤ m ∧ (P m → Q m)) : ∃ m, n ≤ m ∧ Q m := by
  obtain ⟨m, hm, hpq⟩ := hf
  obtain hp | ⟨k, hk, -, -, hq⟩ := holds_until h hs m hm
  · exact ⟨m, hm, hpq hp⟩
  · exact ⟨k, hk, hq⟩

/-- The event that arrives next shows the scanner a time of `T` or later. -/
def ShowsTime (T : Stamp) (s : State) : Prop :=
  ∃ x rest t, s.inputs = x :: rest ∧ scannerStamp x = some t ∧ T.toNat ≤ t.toNat

/-- A run that stays in SCAN is shown every time (R262). -/
theorem TimeIsSeenToPass.showsTime {arrivals : Nat → List Input} {σ : Nat → State}
    (h : TimeIsSeenToPass arrivals σ) (n : Nat) (T : Stamp) :
    ∃ m, n ≤ m ∧ ((σ m).mode = .scan → ShowsTime T (feed (arrivals m) (σ m))) := by
  obtain ⟨m, hm, hne | ⟨x, t, htaken, hx, hle⟩⟩ := h n T
  · exact ⟨m, hm, fun hscan => absurd hscan hne⟩
  · obtain ⟨rest, hi⟩ := List.head?_eq_some_iff.1 htaken
    exact ⟨m, hm, fun _ => ⟨x, rest, t, hi, hx, hle⟩⟩

/-! A pending cancel (R173). -/

/-- A scan with a cancel pending. -/
def CancelPending (s : State) : Prop := s.mode = .scan ∧ s.cancelReq = true

/-- The scan has ended CANCELLED with its line closed. -/
def EndedCancelled (s : State) : Prop := s.scanOutcome = .cancelled ∧ s.mode = .idle ∧ s.lineOpen = false

/-- Whatever reaches the scanner with a cancel pending ends the scan. -/
theorem endedCancelled_scanEvent {s : State} (hc : s.cancelReq = true) (t : Stamp) (ev : LineEvent) :
    EndedCancelled (scanEvent t ev s) := by
  rw [scanEvent_of_cancel hc]
  exact ⟨rfl, rfl, rfl⟩

/-- A pending cancel stays pending until a reset or the end of the scan. -/
theorem step_of_cancelPending {s s' : State} (hp : CancelPending s) (h : step s = .next s') :
    CancelPending s' ∨ ResetNext s ∨ EndedCancelled s' := by
  obtain ⟨hm, hc⟩ := hp
  rcases step_scan_cases hm h with hreset | hreset | ⟨x, t, rest, ev, -, -, rfl⟩ | ⟨⟨hm', -, -, -, hc'⟩, -⟩
  · exact .inr (.inl (.inl hreset))
  · exact .inr (.inl (.inr hreset))
  · exact .inr (.inr (endedCancelled_scanEvent (s := { s with inputs := rest, time := t }) hc t ev))
  · exact .inl ⟨hm', hc' hc⟩

/-- Any event that shows the scanner a time ends a scan with a cancel pending. -/
theorem endedCancelled_of_showsTime {s s' : State} {T : Stamp} (hp : CancelPending s) (hT : ShowsTime T s)
    (h : step s = .next s') : EndedCancelled s' := by
  obtain ⟨hm, hc⟩ := hp
  obtain ⟨x, rest, t, hi, hx, -⟩ := hT
  obtain ⟨ev, rfl, -⟩ := step_of_scannerStamp hm hi hx h
  exact endedCancelled_scanEvent (s := { s with inputs := rest, time := t }) hc t ev

/-- While time is seen to pass a pending cancel is honoured, unless a reset comes first. -/
theorem Execution.cancel_honoured {arrivals : Nat → List Input} {σ : Nat → State} (hrun : Execution arrivals σ)
    (htime : TimeIsSeenToPass arrivals σ) {n : Nat} (hp : CancelPending (σ n)) :
    ∃ m, n ≤ m ∧ (ResetNext (feed (arrivals m) (σ m)) ∨ EndedCancelled (σ (m + 1))) := by
  obtain ⟨m, hm, hshow⟩ := htime.showsTime n 0
  refine occurs_of_holds_until (P := fun k => CancelPending (σ k)) hp
    (fun k _ hk => step_of_cancelPending (s := feed (arrivals k) (σ k)) hk (hrun k)) ⟨m, hm, ?_⟩
  rintro ⟨hscan, hc⟩
  exact .inr (endedCancelled_of_showsTime (s := feed (arrivals m) (σ m)) ⟨hscan, hc⟩ (hshow hscan) (hrun m))

/-! The window of a candidate (R168). -/

/-- Candidate `i` is under test, opened at `u` with the window `w`. -/
structure Observing (i : Nat) (u : Stamp) (w : Word) (s : State) : Prop where
  scanning  : s.mode = .scan
  candIdx   : s.candIdx = i
  tOpen     : s.tOpen = u
  actWindow : s.actWindow = w

/-- The scan is over, or a candidate after `i` is under test. -/
def Past (i : Nat) (s : State) : Prop := s.mode = .idle ∨ i < s.candIdx

/-- An evaluation ends the scan or goes on to the next candidate (R171). -/
theorem past_evaluate (t : Stamp) (s : State) : Past s.candIdx (evaluate t s) := by
  rcases evaluate_cases t s with ⟨-, e⟩ | ⟨-, e⟩ <;> rw [e]
  · exact .inl rfl
  · rcases beginCandidate_cases t { s with candIdx := s.candIdx + 1 } with ⟨-, e'⟩ | ⟨c, -, e'⟩ <;> rw [e']
    · exact .inl rfl
    · exact .inr (Nat.lt_succ_self s.candIdx)

/-- A scanner event leaves the candidate under test, or its observation is over (R167). -/
theorem scanEvent_of_observing {s : State} {i : Nat} {u : Stamp} {w : Word} (ho : Observing i u w s) (t : Stamp)
    (ev : LineEvent) : Observing i u w (scanEvent t ev s) ∨ Past i (scanEvent t ev s) := by
  cases hc : s.cancelReq with
  | true =>
    obtain ⟨-, hidle, -⟩ := endedCancelled_scanEvent hc t ev
    exact .inr (.inl hidle)
  | false =>
    rcases scanEvent_of_not_cancel hc t ev with ⟨-, e⟩ | ⟨-, ⟨b, e⟩ | e⟩ <;> rw [e]
    · exact .inr (ho.candIdx ▸ past_evaluate t (observed (closes ev) s))
    · obtain ⟨v, q, f, n, k, e'⟩ := reassemble_shape t b s
      rw [e']
      exact .inl { ho with }
    · exact .inl ho

/-- Past the end of its window no event leaves the candidate under test (R168). -/
theorem past_scanEvent_of_windowOver {s : State} {t : Stamp} (hw : windowOver t s = true) (ev : LineEvent) :
    Past s.candIdx (scanEvent t ev s) := by
  cases hc : s.cancelReq with
  | true =>
    obtain ⟨-, hidle, -⟩ := endedCancelled_scanEvent hc t ev
    exact .inl hidle
  | false =>
    rw [scanEvent_of_over hc (.inr hw)]
    exact past_evaluate t (observed (closes ev) s)

/-- A step leaves the candidate under test, or its observation is over. -/
theorem step_of_observing {s s' : State} {i : Nat} {u : Stamp} {w : Word} (ho : Observing i u w s)
    (h : step s = .next s') : Observing i u w s' ∨ Past i s' := by
  rcases step_scan_cases ho.scanning h with
    hreset | hreset | ⟨x, t, rest, ev, -, -, rfl⟩ | ⟨⟨hm', hidx, hopen, hwin, -⟩, -⟩
  · exact .inr (.inl (mode_of_resetNext (.inl hreset) h))
  · exact .inr (.inl (mode_of_resetNext (.inr hreset) h))
  · exact scanEvent_of_observing (s := { s with inputs := rest, time := t }) { ho with } t ev
  · exact .inl ⟨hm', hidx.trans ho.candIdx, hopen.trans ho.tOpen, hwin.trans ho.actWindow⟩

/-- An event that shows the scanner the end of the window ends the observation. -/
theorem past_of_showsTime {s s' : State} {i : Nat} {u T : Stamp} {w : Word} (ho : Observing i u w s)
    (hend : T.toNat = u.toNat + w.toNat) (hT : ShowsTime T s) (h : step s = .next s') : Past i s' := by
  obtain ⟨hm, rfl, rfl, rfl⟩ := ho
  obtain ⟨x, rest, t, hi, hx, hle⟩ := hT
  obtain ⟨ev, rfl, -⟩ := step_of_scannerStamp hm hi hx h
  have hover : windowOver t s = true := (windowOver_iff t s).2 (by omega)
  exact past_scanEvent_of_windowOver (s := { s with inputs := rest, time := t }) hover ev

/-- While time is seen to pass, a candidate whose window ends before 2^64 does not stay under test. -/
theorem Execution.window_ends {arrivals : Nat → List Input} {σ : Nat → State} (hrun : Execution arrivals σ)
    (htime : TimeIsSeenToPass arrivals σ) {n i : Nat} {u : Stamp} {w : Word} (ho : Observing i u w (σ n))
    (hlt : u.toNat + w.toNat < 2 ^ 64) : ∃ m, n ≤ m ∧ Past i (σ (m + 1)) := by
  have hend : (BitVec.ofNat 64 (u.toNat + w.toNat)).toNat = u.toNat + w.toNat := by
    rw [BitVec.toNat_ofNat, Nat.mod_eq_of_lt hlt]
  obtain ⟨m, hm, hshow⟩ := htime.showsTime n (BitVec.ofNat 64 (u.toNat + w.toNat))
  exact occurs_of_holds_until (P := fun k => Observing i u w (σ k)) ho
    (fun k _ hk => step_of_observing (s := feed (arrivals k) (σ k)) { hk with } (hrun k))
    ⟨m, hm, fun hom => past_of_showsTime (s := feed (arrivals m) (σ m)) { hom with } hend (hshow hom.scanning) (hrun m)⟩

/-! The head of CFQ (R194). -/

/-- The frame `cf` is the head of CFQ, before `rest` and what has come since. -/
def HeadBefore (cf : CandidateFrame) (rest : List CandidateFrame) (s : State) : Prop :=
  ∃ more, s.cfq = cf :: (rest ++ more)

/-- The step takes `cf` from CFQ and leaves `rest` and what has come since, in order. -/
def HeadTaken (cf : CandidateFrame) (rest : List CandidateFrame) (s s' : State) : Prop :=
  ∃ more, s.cfq = cf :: (rest ++ more) ∧ s'.cfq = rest ++ more

/-- `DECODE_STEP` takes the head of CFQ (R189). -/
theorem cfq_decodeStep {s s' : State} {cf : CandidateFrame} {rest : List CandidateFrame} (hq : s.cfq = cf :: rest)
    (he : exec .decodeStep s = .next s') : s'.cfq = rest := by
  cases hp : RtuFrame.parse cf.bytes with
  | none =>
    rw [execDecodeStep_of_short hq hp] at he
    obtain rfl := Host.Outcome.next.inj he
    rfl
  | some f =>
    rw [execDecodeStep_of_parse hq hp] at he
    obtain rfl := Host.Outcome.next.inj he
    obtain ⟨hcfq, -⟩ := fifoStep_decodeStage cf.inGrace
      (decodeRecord ⟨cf.ts, cf.inGrace, f.address, f.crcLo, f.crcHi⟩ f.function f.payload) { s with cfq := rest }
    exact hcfq

/-- The decode stage acts at a `DEC`, and where nothing has arrived while CFQ is not empty (R189, R194). -/
theorem cfq_step_of_decode {s s' : State} {cf : CandidateFrame} {rest : List CandidateFrame} (hq : s.cfq = cf :: rest)
    (hd : s.inputs.head? = some .dec ∨ s.inputs.head? = none) (h : step s = .next s') : s'.cfq = rest := by
  obtain hdec | hnone := hd
  · obtain ⟨inputs, hi⟩ := List.head?_eq_some_iff.1 hdec
    rw [step_of_decodeInput_ok hi rfl rfl] at h
    exact cfq_decodeStep (s := { s with inputs := inputs, time := s.time }) hq h
  · have hne : s.cfq ≠ [] := by simp [hq]
    rw [step, fetch_of_inputs_nil (List.head?_eq_none_iff.1 hnone), if_neg hne] at h
    exact cfq_decodeStep hq h

/-- CFQ being a FIFO, its head stays there until it is taken or a reset comes (R187). -/
theorem step_of_headBefore {s s' : State} {cf : CandidateFrame} {rest : List CandidateFrame}
    (hb : HeadBefore cf rest s) (h : step s = .next s') :
    HeadBefore cf rest s' ∨ ResetNext s ∨ HeadTaken cf rest s s' := by
  obtain ⟨more, hq⟩ := hb
  by_cases hr : ResetNext s
  · exact .inr (.inl hr)
  obtain ⟨hfifo, -⟩ := fifoSteps_step h hr
  rcases fifoStep_iff.1 hfifo with e | ⟨x, e⟩ | ⟨x, e, -⟩
  · exact .inl ⟨more, e.trans hq⟩
  · exact .inr (.inr ⟨more, hq, (List.cons.inj (e.symm.trans hq)).2⟩)
  · exact .inl ⟨more ++ [x], by rw [e, hq, List.cons_append, List.append_assoc]⟩

/-- While the decode stage is weakly fair the head of CFQ is taken, unless a reset comes first. -/
theorem Execution.head_taken {arrivals : Nat → List Input} {σ : Nat → State} (hrun : Execution arrivals σ)
    (hfair : DecodeIsWeaklyFair arrivals σ) {n : Nat} {cf : CandidateFrame} {rest : List CandidateFrame}
    (hq : (σ n).cfq = cf :: rest) :
    ∃ m, n ≤ m ∧ (ResetNext (feed (arrivals m) (σ m)) ∨ HeadTaken cf rest (σ m) (σ (m + 1))) := by
  obtain ⟨m, hm, hdec⟩ := hfair n
  refine occurs_of_holds_until (P := fun k => HeadBefore cf rest (σ k)) ⟨[], by rw [hq, List.append_nil]⟩
    (fun k _ hk => step_of_headBefore (s := feed (arrivals k) (σ k)) hk (hrun k)) ⟨m, hm, ?_⟩
  rintro ⟨more, hqm⟩
  obtain hempty | htaken := hdec
  · simp [hqm] at hempty
  · exact .inr ⟨more, hqm, cfq_step_of_decode (s := feed (arrivals m) (σ m)) hqm htaken (hrun m)⟩

/-- Settles O60: a pending cancel, a candidate under test and the head of CFQ each stand until the awaited step
or a reset, and fairness brings the step. -/
theorem fairRunsMakeProgress : Obligations.FairRunsMakeProgress := by
  unfold Obligations.FairRunsMakeProgress
  intro arrivals σ hrun
  refine ⟨fun htime n hm => ⟨fun hc => hrun.cancel_honoured htime ⟨hm, hc⟩, fun hlt => ?_⟩,
    fun hfair n cf rest hq => hrun.head_taken hfair hq⟩
  obtain ⟨m, hnm, hpast⟩ := hrun.window_ends htime ⟨hm, rfl, rfl, rfl⟩ hlt
  exact ⟨m + 1, Nat.lt_succ_of_le hnm, hpast⟩

end Sys2Proof.Machine
end
